-- ==== Sys2Proof/Word.lean ====
section
/-!
DEFINITION. The byte type and the fixed-size indexed table used for every table and record file of the part
(4 lanes, 8 actuators, 32 couplings, 16 tanks, 8 meter channels, 27 event flags and so on).
-/

namespace Sys2Proof

/-- One byte of a data field (spec 11: "Byte 0 is the first data byte"). -/
abbrev Byte := BitVec 8

/-- `n` places holding one value each. The spec's tables are of this shape: a fixed number of rows, by index. -/
structure Tab (n : Nat) (α : Type) where
  rows : List α
  len  : rows.length = n
deriving DecidableEq, Repr

/-- The value at place `i`. -/
def Tab.get {n : Nat} {α : Type} (v : Tab n α) (i : Fin n) : α :=
  v.rows[i.val]'(by rw [v.len]; exact i.isLt)

/-- The table with place `i` replaced by `x`. -/
def Tab.set {n : Nat} {α : Type} (v : Tab n α) (i : Fin n) (x : α) : Tab n α :=
  ⟨v.rows.set i.val x, by rw [List.length_set, v.len]⟩

/-- The table with `f` applied to place `i`. -/
def Tab.modify {n : Nat} {α : Type} (v : Tab n α) (i : Fin n) (f : α → α) : Tab n α :=
  v.set i (f (v.get i))

/-- Every place holds `x`. -/
def Tab.fill (n : Nat) {α : Type} (x : α) : Tab n α :=
  ⟨List.replicate n x, List.length_replicate⟩

/-- `f` applied to every place. -/
def Tab.map {n : Nat} {α β : Type} (v : Tab n α) (f : α → β) : Tab n β :=
  ⟨v.rows.map f, by rw [List.length_map, v.len]⟩

@[simp] theorem Tab.get_set_self {n : Nat} {α : Type} (v : Tab n α) (i : Fin n) (x : α) :
    (v.set i x).get i = x := by
  simp [Tab.get, Tab.set]

theorem Tab.get_set_ne {n : Nat} {α : Type} (v : Tab n α) {i j : Fin n} (x : α) (h : j ≠ i) :
    (v.set i x).get j = v.get j := by
  have : i.val ≠ j.val := fun e => h (Fin.ext e.symm)
  simp [Tab.get, Tab.set, this]

theorem Tab.get_set {n : Nat} {α : Type} (v : Tab n α) (i j : Fin n) (x : α) :
    (v.set i x).get j = if j = i then x else v.get j := by
  split
  · next h => rw [h, Tab.get_set_self]
  · next h => exact Tab.get_set_ne v x h

@[simp] theorem Tab.get_fill {n : Nat} {α : Type} (x : α) (i : Fin n) : (Tab.fill n x).get i = x := by
  simp [Tab.get, Tab.fill]

@[simp] theorem Tab.get_map {n : Nat} {α β : Type} (v : Tab n α) (f : α → β) (i : Fin n) :
    (v.map f).get i = f (v.get i) := by
  simp [Tab.get, Tab.map]

theorem Tab.ext_get {n : Nat} {α : Type} {v w : Tab n α} (h : ∀ i, v.get i = w.get i) : v = w := by
  obtain ⟨vr, vl⟩ := v
  obtain ⟨wr, wl⟩ := w
  have : vr = wr := by
    apply List.ext_getElem (vl.trans wl.symm)
    intro k h1 h2
    exact h ⟨k, vl ▸ h1⟩
  subst this
  rfl

/-- The indices `0 … n-1` in ascending order. -/
def indices : (n : Nat) → List (Fin n)
  | 0 => []
  | n + 1 => 0 :: (indices n).map Fin.succ

theorem mem_indices : {n : Nat} → (i : Fin n) → i ∈ indices n
  | 0, i => i.elim0
  | n + 1, i => by
    refine Fin.cases ?_ (fun j => ?_) i
    · simp [indices]
    · simp only [indices, List.mem_cons, List.mem_map]
      exact .inr ⟨j, mem_indices j, rfl⟩

/-- The least of a list, none for an empty list. -/
def leastOf : List Nat → Option Nat
  | [] => none
  | x :: xs => match leastOf xs with
    | none => some x
    | some y => some (min x y)

/-- A value raised to `lo` if below it and then lowered to `hi` if above it. -/
def clampNat (lo hi v : Nat) : Nat := min hi (max lo v)

/-- A signed value raised to `lo` if below it and then lowered to `hi` if above it. -/
def clampInt (lo hi v : Int) : Int := min hi (max lo v)

end Sys2Proof
end

