-- ==== Sys2Proof/Config.lean ====
section
/-!
DEFINITION. What the spec leaves open and one part fixes: free values. None has a body, so nothing can be proved of it
beyond what the spec itself says. Each is named in the assumption log.
-/

namespace Sys2Proof

/-- The bytes of a MGMT_REPLY body whose layout no chapter tables. The first argument names the layout: 256 × the request
code + the table or section the request names (0 where it names none). The second is the fields in the order of the
rule that owns the request (11.6), absent fields as `none`: what the reply carries is fixed by the model, how wide each
field is sent is not (assumption log 7). -/
opaque Config.replyBody : Nat → List (Option Int) → List Byte

/-- What an account field of a tank holds when the exact sum falls outside the 64 bits of section 8.1; the argument is
the exact sum (assumption log 8). -/
opaque Config.accountOverflow : Int → BitVec 64

/-- The alarm bit of LANE_SUMMARY frame 1 and of a HELM_SUMMARY actuator frame while no alarm has been reported: R169
lays the bit out for a reported alarm only (assumption log 10). -/
opaque Config.absentAlarmBit : Bool

/-- The job byte of COMMAND_STATE while there has been no take since the last reset: 11.5 gives a code for the source
and for the result of "no take", none for its job (assumption log 10). -/
opaque Config.noTakeJobByte : Byte

end Sys2Proof
end

