-- ==== Sys2Proof/Syntax.lean ====
section
/-!
DEFINITION. The commands of the CV-612: one constructor per row of spec/opcode_table.json.

A command is one indivisible step of the part, in the sense of spec/95_what_each_step_holds.md. Every command carries
`t`, the moment (in ms) at which the step is taken (assumption log 1). What a step of the frame switch works on is
not an operand: it is the frame at the head of the ingress queue of the port `p` (R15), where an earlier
FRAME_RECEIVED put it. Management requests are addressed to the part on port B only (R16), so their rows name no port.
-/

namespace Sys2Proof

/-- The three ports (section 1.1). -/
inductive Port where
  | B
  | M
  | T
deriving DecidableEq, Repr

/-- The two jobs held by command (chapter 3). -/
inductive Job where
  | prop
  | steer
deriving DecidableEq, Repr

/-- A CAN frame as it stands on a segment (section 1.1): extended or standard identifier, data or remote frame,
identifier bits as section 11.1 numbers them (a standard identifier has 11), data field of 0 to 8 bytes. -/
structure WireFrame where
  extended : Bool
  remote   : Bool
  ident    : BitVec 29
  data     : List Byte
deriving DecidableEq, Repr

/-- What holds the part in reset (R170 and section 11.7): the reset line, asserted for the given number of ms so far,
or the supply below 15 V. -/
inductive HoldCause where
  | line (ms : Nat)
  | supplyBelow15V
deriving DecidableEq, Repr

/-- What ends a cause of a hold in reset (R170): the reset line is released, or the supply rises into range, with the levels
of the seven node-strap lines at that moment (R3). -/
inductive HoldEnd where
  | lineReleased (straps : BitVec 7)
  | supplyRises (straps : BitVec 7)
deriving DecidableEq, Repr

/-- The commands, one per row of the table, in the table's order. -/
inductive Instr where
  /-- FRAME_RECEIVED (R14). -/
  | frameReceived (t : Nat) (p : Port) (f : WireFrame)
  /-- CLASSIFY_FRAME (R15). -/
  | classifyFrame (t : Nat) (p : Port)
  /-- SEGMENT_TAKES_FRAME (R27). -/
  | segmentTakesFrame (t : Nat) (p : Port)
  /-- MGMT_REQUEST_PART (R10). -/
  | mgmtRequestPart (t : Nat) (p : Port)
  /-- ASSEMBLY_TIMER_EXPIRY (R12). -/
  | assemblyTimerExpiry (t : Nat) (slot : Fin 2)
  /-- UNKNOWN_REQUEST (R159). -/
  | unknownRequest (t : Nat)
  /-- IDENTIFY (R160). -/
  | identify (t : Nat)
  /-- READ_STATUS (R160). -/
  | readStatus (t : Nat)
  /-- READ_ROW (R159). -/
  | readRow (t : Nat)
  /-- LOAD_ROUTE_ENTRY (R19). -/
  | loadRouteEntry (t : Nat)
  /-- LOAD_STATION_ROW (R32). -/
  | loadStationRow (t : Nat)
  /-- LOAD_TIMING_ROW (R33). -/
  | loadTimingRow (t : Nat)
  /-- LOAD_LANE_ROW (R48). -/
  | loadLaneRow (t : Nat)
  /-- LOAD_GROUP_ROW (R81). -/
  | loadGroupRow (t : Nat)
  /-- LOAD_ACTUATOR_ROW (R92). -/
  | loadActuatorRow (t : Nat)
  /-- LOAD_BANK_ROW (R95). -/
  | loadBankRow (t : Nat)
  /-- LOAD_COUPLING_ROW (R108). -/
  | loadCouplingRow (t : Nat)
  /-- LOAD_TANK_ROW (R128). -/
  | loadTankRow (t : Nat)
  /-- LOAD_METER_CHANNEL_ROW (R132). -/
  | loadMeterChannelRow (t : Nat)
  /-- CLEAR_ROUTE_TABLE (R20). -/
  | clearRouteTable (t : Nat)
  /-- CLEAR_STATION_TABLE (R32). -/
  | clearStationTable (t : Nat)
  /-- CLEAR_LANE_TABLE (R49). -/
  | clearLaneTable (t : Nat)
  /-- CLEAR_GROUP_TABLE (R81). -/
  | clearGroupTable (t : Nat)
  /-- CLEAR_ACTUATOR_TABLE (R93). -/
  | clearActuatorTable (t : Nat)
  /-- CLEAR_BANK (R98). -/
  | clearBank (t : Nat)
  /-- CLEAR_COUPLING_TABLE (R109). -/
  | clearCouplingTable (t : Nat)
  /-- CLEAR_TANK_TABLE (R129). -/
  | clearTankTable (t : Nat)
  /-- CLEAR_METER_CHANNEL_TABLE (R132). -/
  | clearMeterChannelTable (t : Nat)
  /-- CLOSE_BANK (R96). -/
  | closeBank (t : Nat)
  /-- SWAP_BANK (R97). -/
  | swapBank (t : Nat)
  /-- ENGAGE (R161). -/
  | engage (t : Nat)
  /-- DISENGAGE (R161). -/
  | disengage (t : Nat)
  /-- LAY_UP (R161). -/
  | layUp (t : Nat)
  /-- WAKE (R161). -/
  | wake (t : Nat)
  /-- SET_CAP (R77). -/
  | setCap (t : Nat)
  /-- OPEN_TANK (R130). -/
  | openTank (t : Nat)
  /-- ADJUST_TANK (R156). -/
  | adjustTank (t : Nat)
  /-- READ_TANK (R129). -/
  | readTank (t : Nat)
  /-- TRANSFER (R144). -/
  | transfer (t : Nat)
  /-- CANCEL_TRANSFER (R153). -/
  | cancelTransfer (t : Nat)
  /-- SUSPEND_TRANSFER (R152). -/
  | suspendTransfer (t : Nat)
  /-- RESUME_TRANSFER (R152). -/
  | resumeTransfer (t : Nat)
  /-- READ_TRANSFER (R143). -/
  | readTransfer (t : Nat)
  /-- SOUNDING (R154). -/
  | sounding (t : Nat)
  /-- RECONCILE (R155). -/
  | reconcile (t : Nat)
  /-- READ_EVENTS (R164). -/
  | readEvents (t : Nat)
  /-- CLEAR_EVENTS (R164). -/
  | clearEvents (t : Nat)
  /-- SET_MASK (R164). -/
  | setMask (t : Nat)
  /-- READ_COUNTERS (R30). -/
  | readCounters (t : Nat)
  /-- RESET_ARM (R165). -/
  | resetArm (t : Nat)
  /-- RESET (R165). -/
  | reset (t : Nat)
  /-- RESET_ARM_EXPIRY (R165). -/
  | resetArmExpiry (t : Nat)
  /-- POWER_ON_RESET (R167). -/
  | powerOnReset (t : Nat) (cause : HoldEnd)
  /-- RESET_LINE_ASSERTED (R170). -/
  | resetLineAsserted (t : Nat) (cause : HoldCause)
  /-- SPEED_DEMAND (R58). -/
  | speedDemand (t : Nat) (p : Port)
  /-- NEUTRAL_DEMAND (R58). -/
  | neutralDemand (t : Nat) (p : Port)
  /-- KICK_DEMAND (R69). -/
  | kickDemand (t : Nat) (p : Port)
  /-- CRASH_ASTERN (R71). -/
  | crashAstern (t : Nat) (p : Port)
  /-- GROUP_DEMAND (R83). -/
  | groupDemand (t : Nat) (p : Port)
  /-- HELM_DEMAND (R99). -/
  | helmDemand (t : Nat) (p : Port)
  /-- TAKE_COMMAND (R38). -/
  | takeCommand (t : Nat) (p : Port)
  /-- RELEASE_COMMAND (R41). -/
  | releaseCommand (t : Nat) (p : Port)
  /-- DEMAND_TIMEOUT_EXPIRY (R42). -/
  | demandTimeoutExpiry (t : Nat) (j : Job)
  /-- COMMAND_HOLD_EXPIRY (R43). -/
  | commandHoldExpiry (t : Nat) (j : Job)
  /-- COMMAND_STATE_PERIOD (R45). -/
  | commandStatePeriod (t : Nat)
  /-- ENGINE_STATUS (R53). -/
  | engineStatus (t : Nat) (p : Port)
  /-- LANE_STATUS_TIMEOUT (R57). -/
  | laneStatusTimeout (t : Nat) (l : Fin 4)
  /-- CLUTCH_CONFIRM_TIMEOUT (R61). -/
  | clutchConfirmTimeout (t : Nat) (l : Fin 4)
  /-- NEUTRAL_CONFIRM_TIMEOUT (R63). -/
  | neutralConfirmTimeout (t : Nat) (l : Fin 4)
  /-- DWELL_EXPIRY (R60). -/
  | dwellExpiry (t : Nat) (l : Fin 4)
  /-- KICK_TIMER_EXPIRY (R70). -/
  | kickTimerExpiry (t : Nat) (l : Fin 4)
  /-- RAMP_TIMER_EXPIRY (R65). -/
  | rampTimerExpiry (t : Nat) (l : Fin 4)
  /-- LANE_REFRESH_EXPIRY (R68). -/
  | laneRefreshExpiry (t : Nat) (l : Fin 4)
  /-- LANE_SUMMARY_PERIOD (R74). -/
  | laneSummaryPeriod (t : Nat) (l : Fin 4)
  /-- GROUP_RAMP_EXPIRY (R86). -/
  | groupRampExpiry (t : Nat) (g : Fin 2)
  /-- GROUP_HOLD_EXPIRY (R87). -/
  | groupHoldExpiry (t : Nat) (g : Fin 2)
  /-- STEER_STATUS (R104). -/
  | steerStatus (t : Nat) (p : Port)
  /-- ACTUATOR_RATE_EXPIRY (R102). -/
  | actuatorRateExpiry (t : Nat) (a : Fin 8)
  /-- ACTUATOR_REFRESH_EXPIRY (R103). -/
  | actuatorRefreshExpiry (t : Nat) (a : Fin 8)
  /-- ACTUATOR_STATUS_TIMEOUT (R105). -/
  | actuatorStatusTimeout (t : Nat) (a : Fin 8)
  /-- HELM_SUMMARY_PERIOD (R107). -/
  | helmSummaryPeriod (t : Nat)
  /-- WINCH_STATUS (R111). -/
  | winchStatus (t : Nat) (p : Port)
  /-- COUPLING_STATUS_TIMEOUT (R111). -/
  | couplingStatusTimeout (t : Nat) (c : Fin 32)
  /-- SLACK_TIMER_EXPIRY (R114). -/
  | slackTimerExpiry (t : Nat) (c : Fin 32)
  /-- COUPLING_OPERATION_TIMEOUT (R115). -/
  | couplingOperationTimeout (t : Nat) (c : Fin 32)
  /-- COUPLING_REPEAT_EXPIRY (R120). -/
  | couplingRepeatExpiry (t : Nat) (c : Fin 32)
  /-- COUPLING_SUMMARY_PERIOD (R127). -/
  | couplingSummaryPeriod (t : Nat) (c : Fin 32)
  /-- MAKE_UP (R118). -/
  | makeUp (t : Nat) (p : Port)
  /-- EASE (R119). -/
  | ease (t : Nat) (p : Port)
  /-- RELEASE (R123). -/
  | release (t : Nat) (p : Port)
  /-- LOCK (R121). -/
  | lock (t : Nat) (p : Port)
  /-- UNLOCK (R121). -/
  | unlock (t : Nat) (p : Port)
  /-- LOCK_ALL (R121). -/
  | lockAll (t : Nat) (p : Port)
  /-- UNLOCK_ALL (R121). -/
  | unlockAll (t : Nat) (p : Port)
  /-- PERMIT (R122). -/
  | permit (t : Nat) (p : Port)
  /-- PERMIT_EXPIRY (R122). -/
  | permitExpiry (t : Nat)
  /-- METER_READING (R133). -/
  | meterReading (t : Nat) (p : Port)
  /-- METER_TIMER_EXPIRY (R140). -/
  | meterTimerExpiry (t : Nat) (ch : Fin 8)
  /-- PUMP_STATUS (R147). -/
  | pumpStatus (t : Nat) (p : Port)
  /-- TRANSFER_START_TIMEOUT (R148). -/
  | transferStartTimeout (t : Nat)
  /-- TRANSFER_STOP_TIMEOUT (R151). -/
  | transferStopTimeout (t : Nat)
  /-- TRANSFER_REPEAT_EXPIRY (R148). -/
  | transferRepeatExpiry (t : Nat)
deriving DecidableEq, Repr

end Sys2Proof
end

