-- ==== Sys2Proof/Decode.lean ====
section
/-!
DEFINITION. The byte and bit layouts shared by every block: the 29-bit identifier (section 11.1) in both directions, and
multi-byte values, which are sent most significant byte first with signed values in two's complement (chapter 11).

`decodeTableWord`: no row of spec/opcode_table.json gives bits (the commands of this block are steps, not words), so no
word spells a command.
-/

namespace Sys2Proof

/-- No row of the table gives bits: no word spells a command (assumption log 26). -/
def decodeTableWord (_nbits _w : Nat) : Option Instr := none

/-- The six fields of a CMS identifier (section 1.2), with the widths of section 11.1. -/
structure Ident where
  cls    : BitVec 3
  kind   : Byte
  source : BitVec 7
  target : BitVec 7
  last   : Bool
  part   : BitVec 3
deriving DecidableEq, Repr

/-- The fields of an identifier's 29 bits (section 11.1). -/
def Ident.ofBits (w : BitVec 29) : Ident where
  cls    := w.extractLsb' 26 3
  kind   := w.extractLsb' 18 8
  source := w.extractLsb' 11 7
  target := w.extractLsb' 4 7
  last   := w.getLsbD 3
  part   := w.extractLsb' 0 3

/-- The 29 bits of an identifier (section 11.1). -/
def Ident.toBits (i : Ident) : BitVec 29 :=
  i.cls ++ i.kind ++ i.source ++ i.target ++ BitVec.ofBool i.last ++ i.part

/-- Byte `k` of a data field or message as a number; bytes that are not there read as 0 (every reader tests the
length first: R6, R159). -/
def u8 (m : List Byte) (k : Nat) : Nat := (m.getD k 0).toNat

/-- Bytes `k`, `k+1` as an unsigned value. -/
def u16 (m : List Byte) (k : Nat) : Nat := u8 m k * 256 + u8 m (k + 1)

/-- Bytes `k` to `k+3` as an unsigned value. -/
def u32 (m : List Byte) (k : Nat) : Nat := u16 m k * 65536 + u16 m (k + 2)

/-- Bytes `k`, `k+1` as a signed value in two's complement. -/
def i16 (m : List Byte) (k : Nat) : Int := (BitVec.ofNat 16 (u16 m k)).toInt

/-- Bit `b` of byte `k`. -/
def bitOf (m : List Byte) (k b : Nat) : Bool := (m.getD k 0).getLsbD b

/-- A number of 0 to 255 as one byte. -/
def byte (n : Nat) : Byte := BitVec.ofNat 8 n

/-- An unsigned value as two bytes. -/
def be16 (n : Nat) : List Byte := [byte (n / 256), byte n]

/-- A signed value as two bytes. -/
def beInt16 (v : Int) : List Byte := be16 (BitVec.ofInt 16 v).toNat

/-- A value as `k` bytes. -/
def beBytes : Nat → Nat → List Byte
  | 0, _ => []
  | k + 1, n => byte (n / 256 ^ k) :: beBytes k n

/-- The index a byte names among `n` places, if it names one. -/
def idx (n v : Nat) : Option (Fin n) := if h : v < n then some ⟨v, h⟩ else none

/-- A flag as one bit of value `2 ^ b`. -/
def bitVal (f : Bool) (b : Nat) : Nat := if f then 2 ^ b else 0

/-- An optional value whose wire form has a code for "absent". -/
def absentAs (code v : Nat) : Option Nat := if v = code then none else some v

end Sys2Proof
end

