-- ==== Sys2Proof/Machine/State.lean ====
section
/-!
DEFINITION. The state of the CV-612: every table, record, queue, counter, mode and timer the spec gives it, block by
block, and the state right after power-on reset. Times are in ms on the clock `now`; a timer is its expiry, `none` while
stopped. Fields that are the model's own and not the spec's are said so.
-/

namespace Sys2Proof.Machine

/-- The 25 kinds of the Convoy Message Set (sections 1.5 and 11.2). -/
inductive MsgKind where
  | speedDemand | groupDemand | neutralDemand | kickDemand | crashAstern | helmDemand | takeCommand | releaseCommand
  | couplingOrder | engineStatus | steerStatus | winchStatus | pumpStatus | meterReading
  | governorOrder | steerOrder | winchOrder | pumpOrder | laneSummary | helmSummary | couplingSummary | commandState
  | attention | mgmtReply | mgmtRequest
deriving DecidableEq, Repr

/-- The device mode (section 10.2). -/
inductive Mode where
  | passThrough | coordinating | laidUp
deriving DecidableEq, Repr

/-- A direction, a commanded gear, or a gain column: NEUTRAL, AHEAD or ASTERN. -/
inductive Dir where
  | neutral | ahead | astern
deriving DecidableEq, Repr

/-- MAIN or ASSIST: the vessel a lane drives and a coupling may bear. -/
inductive Boat where
  | main | assist
deriving DecidableEq, Repr

/-! ## Frame switch (chapters 1 and 2) -/

/-- A CMS frame: its identifier and data field. -/
structure CmsFrame where
  id   : Ident
  data : List Byte
deriving DecidableEq, Repr

/-- A frame in an ingress queue (R14): the frame as it arrived and its arrival time. -/
structure Received where
  extended : Bool
  remote   : Bool
  frame    : CmsFrame
  arrival  : Nat
deriving DecidableEq, Repr

/-- The queues, congestion mark and seven counters of a port (sections 2.1, 2.4, 2.5). `egress` is in the order of
admission, oldest first. -/
structure PortState where
  ingress         : List Received
  egress          : List CmsFrame
  armed           : Bool
  received        : Nat
  forwarded       : Nat
  originated      : Nat
  ingressOverflow : Nat
  egressDropped   : Nat
  controlOverflow : Nat
  malformed       : Nat
deriving DecidableEq, Repr

/-- R28, R29, R30: queues empty, mark armed, counters 0. -/
def PortState.reset : PortState where
  ingress := []
  egress := []
  armed := true
  received := 0
  forwarded := 0
  originated := 0
  ingressOverflow := 0
  egressDropped := 0
  controlOverflow := 0
  malformed := 0

/-- A forward set: any subset of the ports (section 2.3.1). -/
structure PortSet where
  B : Bool
  M : Bool
  T : Bool
deriving DecidableEq, Repr

/-- A route entry (section 2.3.1); `source = none` is ANY. -/
structure RouteEntry where
  kind        : Nat
  source      : Option Nat
  forward     : PortSet
  deliver     : Bool
  rewrite     : Option Nat
  interval    : Option Nat
  hits        : Nat
  lastForward : Option Nat
deriving DecidableEq, Repr

/-- The frame switch: three ports, the route table in ascending key order, the unrouted counter. -/
structure Switch where
  B        : PortState
  M        : PortState
  T        : PortState
  routes   : List RouteEntry
  unrouted : Nat
deriving DecidableEq, Repr

/-! ## Demand intake (chapter 3) -/

/-- A station table row (section 3.1). -/
structure StationRow where
  node      : Nat
  prop      : Bool
  steer     : Bool
  couple    : Bool
  override  : Bool
  speedTol  : Nat
  helmTol   : Nat
deriving DecidableEq, Repr

/-- The loss state of a job (section 3.4); HOLDING with the start of the loss. -/
inductive Loss where
  | attended
  | holding (since : Nat)
  | lost
deriving DecidableEq, Repr

/-- The in-command record of a job: the row of the station in command, when it was last heard, and the loss state. -/
structure JobRec where
  station   : Option (Fin 4)
  lastHeard : Option Nat
  loss      : Loss
deriving DecidableEq, Repr

/-- The refusal reasons of R35. -/
inductive Reason where
  | notInCommand | noRight | mismatch | laidUp | notRunning | laneFault | uncoupled | releaseInProgress | kickReversal
deriving DecidableEq, Repr

/-- The object of a refusal (R35). -/
inductive Object where
  | lane (l : Fin 4)
  | group (g : Fin 2)
  | helm
  | coupling (c : Fin 32)
  | job (j : Job)
  | none
deriving DecidableEq, Repr

/-- The last refusal record (R35). -/
structure RefusalRec where
  source : Nat
  kind   : MsgKind
  reason : Reason
  object : Object
deriving DecidableEq, Repr

/-- The result of a take (R45). -/
inductive TakeResult where
  | accepted | renewal | noRight | mismatch
deriving DecidableEq, Repr

/-- The record of the most recent take (R45). -/
structure TakeRec where
  source : Nat
  job    : Job
  result : TakeResult
deriving DecidableEq, Repr

/-- Demand intake: station table, refusal counts, timing row, in-command records, last refusal, most recent take, and the
expiry of the 1,000 ms COMMAND_STATE period. -/
structure Intake where
  stations      : Tab 4 (Option StationRow)
  refusals      : Tab 4 Nat
  demandTimeout : Nat
  holdTime      : Nat
  prop          : JobRec
  steer         : JobRec
  lastRefusal   : Option RefusalRec
  lastTake      : Option TakeRec
  stateAt       : Nat
deriving DecidableEq, Repr

/-! ## Lane sequencer (chapter 4) and ceiling record (section 5.1) -/

/-- A lane table row (section 4.1). -/
structure LaneRow where
  node           : Nat
  port           : Port
  boat           : Boat
  feedTank       : Fin 16
  channel        : Fin 8
  home           : Option (Fin 2)
  idle           : Nat
  maxAhead       : Nat
  maxAstern      : Nat
  reserveCap     : Nat
  rampUp         : Nat
  rampDown       : Nat
  crashRampDown  : Nat
  clutchTimeout  : Nat
  neutralTimeout : Nat
  reversalDwell  : Nat
  crashDwell     : Nat
  crashSpeed     : Nat
  refresh        : Nat
  statusTimeout  : Nat
deriving DecidableEq, Repr

/-- The state of a lane, with the phase of DISENGAGING (section 4.2). -/
inductive LaneState where
  | unsynced | stopped | neutral | engaging | ahead | astern | rampdown | declutch | fault
deriving DecidableEq, Repr

/-- The cause of a lane fault (R55). -/
inductive LaneCause where
  | engageTimeout | disengageTimeout | gearMismatch | statusLost | localControl
deriving DecidableEq, Repr

/-- A pending engagement (section 4.2): direction, speed, and the duration in s if it came from a kick. -/
structure Pending where
  dir   : Dir
  speed : Nat
  kick  : Option Nat
deriving DecidableEq, Repr

/-- A lane record (section 4.2) with the lane's timers. `lastEngaged = none` is UNKNOWN. `kickMark` is the duration of the
kick an ENGAGING lane is marked with (R69; assumption log 20). -/
structure LaneRec where
  state        : LaneState
  gear         : Dir
  targetDir    : Dir
  targetSpeed  : Nat
  setpoint     : Nat
  pending      : Option Pending
  lastEngaged  : Option Dir
  neutralSince : Option Nat
  kickMark     : Option Nat
  kickTimer    : Option Nat
  crash        : Bool
  inStep       : Bool
  cause        : Option LaneCause
  speed        : Option Nat
  alarm        : Option Bool
  rampTimer    : Option Nat
  clutchTimer  : Option Nat
  neutralTimer : Option Nat
  dwellTimer   : Option Nat
  statusTimer  : Option Nat
  refreshTimer : Option Nat
  summaryAt    : Nat
deriving DecidableEq, Repr

/-- R50: the values of the table of section 4.2, every lane timer stopped; the summary period goes on (R74). -/
def LaneRec.reset (summaryAt : Nat) : LaneRec where
  state := .unsynced
  gear := .neutral
  targetDir := .neutral
  targetSpeed := 0
  setpoint := 0
  pending := none
  lastEngaged := none
  neutralSince := none
  kickMark := none
  kickTimer := none
  crash := false
  inStep := false
  cause := none
  speed := none
  alarm := none
  rampTimer := none
  clutchTimer := none
  neutralTimer := none
  dwellTimer := none
  statusTimer := none
  refreshTimer := none
  summaryAt := summaryAt

/-- A ceiling record (R75): TENSION holds a derate in ‰, the others a speed. -/
structure Ceilings where
  mgmtCap     : Option Nat
  tension     : Option Nat
  fuelReserve : Option Nat
  commandLoss : Option Nat
deriving DecidableEq, Repr

/-- The empty ceiling record. -/
def Ceilings.empty : Ceilings where
  mgmtCap := none
  tension := none
  fuelReserve := none
  commandLoss := none

/-- The lane sequencer: lane table, lane records, ceiling records. -/
structure Lanes where
  rows  : Tab 4 (Option LaneRow)
  recs  : Tab 4 LaneRec
  ceils : Tab 4 Ceilings
deriving DecidableEq, Repr

/-! ## Step-group ramp (chapter 5) -/

/-- A group table row (R81). -/
structure GroupRow where
  tolerance : Nat
  holdLimit : Nat
deriving DecidableEq, Repr

/-- A group record (R82). The in-step set is the set of lanes whose in-step flag is set and whose row names the group,
and the phase follows from it (R82): both are computed, not stored twice (assumption log 29). The hold timer is held by
its start, to which the row's hold limit is added (R81, R87). `tolerance` is the step tolerance in force: the row's, as
the group's last ramp expiry took it (R81; assumption log 20). -/
structure GroupRec where
  targetDir   : Dir
  targetSpeed : Nat
  point       : Nat
  holdStart   : Option Nat
  suspended   : Bool
  ignored     : Nat
  rampTimer   : Option Nat
  tolerance   : Nat
deriving DecidableEq, Repr

/-- R82: the values after both resets. -/
def GroupRec.reset : GroupRec where
  targetDir := .neutral
  targetSpeed := 0
  point := 0
  holdStart := none
  suspended := false
  ignored := 0
  rampTimer := none
  tolerance := 0

/-- The step-group ramp: group table and group records. -/
structure Groups where
  rows : Tab 2 (Option GroupRow)
  recs : Tab 2 GroupRec
deriving DecidableEq, Repr

/-! ## Steering allocator (chapter 6) -/

/-- The kind of an actuator. -/
inductive ActKind where
  | mainRudder | flankingRudder | thruster
deriving DecidableEq, Repr

/-- An actuator table row (section 6.1). -/
structure ActRow where
  node          : Nat
  port          : Port
  kind          : ActKind
  lane          : Fin 4
  fullScale     : Nat
  limit         : Nat
  rate          : Nat
  path          : List (Fin 32)
  refresh       : Nat
  statusTimeout : Nat
deriving DecidableEq, Repr

/-- The state of an actuator. -/
inductive ActState where
  | unsynced | tracking | unreachable | fault
deriving DecidableEq, Repr

/-- An actuator record (section 6.2) with the actuator's timers. -/
structure ActRec where
  state        : ActState
  column       : Dir
  target       : Int
  commanded    : Int
  position     : Option Int
  alarm        : Option Bool
  rateTimer    : Option Nat
  refreshTimer : Option Nat
  statusTimer  : Option Nat
deriving DecidableEq, Repr

/-- R94: the values after both resets, every timer stopped. -/
def ActRec.reset : ActRec where
  state := .unsynced
  column := .neutral
  target := 0
  commanded := 0
  position := none
  alarm := none
  rateTimer := none
  refreshTimer := none
  statusTimer := none

/-- The three gains of a bank row (section 6.3). -/
structure Gains where
  ahead   : Int
  astern  : Int
  neutral : Int
deriving DecidableEq, Repr

/-- The names of the two allocation banks. -/
inductive Bank where
  | A | B
deriving DecidableEq, Repr

/-- The steering allocator: actuator table and records, banks, helm target, and the expiry of the HELM_SUMMARY period. -/
structure Steering where
  rows      : Tab 8 (Option ActRow)
  recs      : Tab 8 ActRec
  bankA     : Tab 8 (Option Gains)
  bankB     : Tab 8 (Option Gains)
  active    : Bank
  complete  : Bool
  helm      : Int
  summaryAt : Nat
deriving DecidableEq, Repr

/-! ## Coupling supervisor (chapter 7) -/

/-- The kind of a coupling. -/
inductive CoupKind where
  | face | tier | breast | assist
deriving DecidableEq, Repr

/-- A coupling table row (section 7.1). -/
structure CoupRow where
  node           : Nat
  port           : Port
  kind           : CoupKind
  bears          : Option Boat
  makeUpTarget   : Nat
  makeUpBand     : Nat
  soft           : Nat
  hard           : Nat
  floor          : Nat
  slackLimit     : Nat
  slackTime      : Nat
  makeUpTimeout  : Nat
  easeTimeout    : Nat
  releaseTimeout : Nat
  statusTimeout  : Nat
deriving DecidableEq, Repr

/-- The state of a coupling (section 7.2). -/
inductive CoupState where
  | unsynced | released | slacked | makingUp | madeFast | easing | releasing | lost | fault
deriving DecidableEq, Repr

/-- What a winch drum does. -/
inductive Drum where
  | heaving | holding | payingOut | free
deriving DecidableEq, Repr

/-- The cause of a coupling fault (R115). -/
inductive CoupCause where
  | makeUpTimeout | easeTimeout | releaseTimeout | statusLost | winchFault
deriving DecidableEq, Repr

/-- The orders of COUPLING_ORDER (section 7.5). -/
inductive CoupOrder where
  | makeUp | ease | release | lock | unlock | lockAll | unlockAll | permit
deriving DecidableEq, Repr

/-- The reasons of R117. -/
inductive CoupReason where
  | range | badState | locked | noPermit | notSlack | propulsionActive | hoseInUse
deriving DecidableEq, Repr

/-- The last refusal of a coupling (R117). -/
structure CoupRefusal where
  source : Nat
  order  : CoupOrder
  reason : CoupReason
deriving DecidableEq, Repr

/-- A coupling record (section 7.2). `releaser` is the source of the accepted RELEASE while RELEASING, which R124 records
(assumption log 20). -/
structure CoupRec where
  state       : CoupState
  lock        : Bool
  tension     : Option Nat
  drum        : Option Drum
  hookOpen    : Option Bool
  overload    : Bool
  cause       : Option CoupCause
  refusal     : Option CoupRefusal
  releaser    : Option Nat
  opTimer     : Option Nat
  slackTimer  : Option Nat
  statusTimer : Option Nat
  repeatTimer : Option Nat
  summaryAt   : Nat
deriving DecidableEq, Repr

/-- R110: the values after both resets, every timer stopped; the summary period goes on (R127). -/
def CoupRec.reset (summaryAt : Nat) : CoupRec where
  state := .unsynced
  lock := true
  tension := none
  drum := none
  hookOpen := none
  overload := false
  cause := none
  refusal := none
  releaser := none
  opTimer := none
  slackTimer := none
  statusTimer := none
  repeatTimer := none
  summaryAt := summaryAt

/-- The release permit record (R122). -/
structure Permit where
  holder : Nat
  setAt  : Nat
deriving DecidableEq, Repr

/-- The last order refusal (R117). -/
structure OrderRefusal where
  source : Nat
  order  : CoupOrder
  index  : Option (Fin 32)
  reason : CoupReason
deriving DecidableEq, Repr

/-- The coupling supervisor: coupling table and records, release permit, last order refusal. -/
structure Couplings where
  rows        : Tab 32 (Option CoupRow)
  recs        : Tab 32 CoupRec
  permit      : Option Permit
  lastRefusal : Option OrderRefusal
deriving DecidableEq, Repr

/-! ## Fuel accounting unit (chapter 8) -/

/-- The kind of a tank. -/
inductive TankKind where
  | storage | feed | barge
deriving DecidableEq, Repr

/-- A tank definition (section 8.1); masses in kg. -/
structure TankRow where
  kind       : TankKind
  capacity   : Nat
  reserve    : Nat
  hysteresis : Nat
  fullMargin : Nat
  density    : Nat
  alpha      : Nat
  hose       : Option (Fin 32)
deriving DecidableEq, Repr

/-- A tank account (section 8.1), in mg, with the tank's at-reserve flag (R141). -/
structure TankAcct where
  defined    : Bool
  content    : Int
  opening    : Int
  drawn      : Int
  inTotal    : Int
  outTotal   : Int
  adjustment : Int
  atReserve  : Bool
deriving DecidableEq, Repr

/-- R142: undefined, every account field 0, flag clear. -/
def TankAcct.reset : TankAcct where
  defined := false
  content := 0
  opening := 0
  drawn := 0
  inTotal := 0
  outTotal := 0
  adjustment := 0
  atReserve := false

/-- The kind of a meter channel. -/
inductive ChanKind where
  | engine | transfer
deriving DecidableEq, Repr

/-- A meter channel row (section 8.2); the return pulse value is absent for TRANSFER. -/
structure ChanRow where
  node        : Nat
  kind        : ChanKind
  supplyPulse : Nat
  returnPulse : Option Nat
  cap         : Nat
  timeout     : Nat
  density     : Nat
deriving DecidableEq, Repr

/-- A meter channel record (section 8.2) with its meter timer; remainders in 10^-11 mg. -/
structure ChanRec where
  prevSupply     : Option Nat
  prevReturn     : Option Nat
  supplyRem      : Nat
  returnRem      : Nat
  lastReading    : Option Nat
  implausible    : Nat
  lost           : Nat
  unassigned     : Nat
  unassignedMass : Int
  timer          : Option Nat
deriving DecidableEq, Repr

/-- The power-on values of a channel record (R142). -/
def ChanRec.reset : ChanRec where
  prevSupply := none
  prevReturn := none
  supplyRem := 0
  returnRem := 0
  lastReading := none
  implausible := 0
  lost := 0
  unassigned := 0
  unassignedMass := 0
  timer := none

/-- The fuel accounting unit: tank definitions and accounts, meter channel rows and records. -/
structure Fuel where
  tanks    : Tab 16 (Option TankRow)
  accts    : Tab 16 TankAcct
  channels : Tab 8 (Option ChanRow)
  recs     : Tab 8 ChanRec
deriving DecidableEq, Repr

/-! ## Transfer controller (chapter 9) -/

/-- The state of a transfer record. -/
inductive XferState where
  | pending | starting | running | suspending | suspended | stopping | closed
deriving DecidableEq, Repr

/-- The close codes (sections 9.1 and 11.6). -/
inductive CloseCode where
  | complete | cancelled | hoseLost | meterLost | destFull | pumpFault | refusedAtStart | reset
deriving DecidableEq, Repr

/-- A transfer record (section 9.1): amount in kg, moved in mg. -/
structure Xfer where
  number      : Nat
  source      : Fin 16
  dest        : Fin 16
  amount      : Nat
  pumpNode    : Nat
  pumpPort    : Port
  channel     : Fin 8
  moved       : Nat
  state       : XferState
  code        : Option CloseCode
  pumpStopped : Bool
  startTimer  : Option Nat
  stopTimer   : Option Nat
  repeatTimer : Option Nat
deriving DecidableEq, Repr

/-- The transfer controller: the ACTIVE and PENDING slots (`waiting` is the PENDING slot), the last closed record, the next
transfer number, and the sounding list, held by tank index (at most one entry per tank, in ascending index: R154). -/
structure Transfers where
  active     : Option Xfer
  waiting    : Option Xfer
  lastClosed : Option Xfer
  nextNumber : Nat
  soundings  : Tab 16 (Option Nat)
deriving DecidableEq, Repr

/-! ## Management block (chapter 10; reassembly in section 1.8) -/

/-- The 27 events of section 10.3, in the order of their numbers 0 to 26. -/
inductive Event where
  | portCongested | ingressOverflow | unrouted | partError | demandRefused | commandHandover | commandLoss | laneFault
  | outOfStep | leftGroup | steerActuatorFault | actuatorUnreachable | bankSwapped | couplingOverload | couplingLost
  | couplingFault | couplingRefused | couplingReleased | assistUncoupled | tankReserve | tankOverdrawn
  | meterImplausible | meterLost | unassignedFlow | transferClosed | reconcileHalted | resetDone
deriving DecidableEq, Repr

/-- An event flag (R163). -/
structure EventFlag where
  isSet  : Bool
  masked : Bool
  count  : Nat
  detail : Option Nat
deriving DecidableEq, Repr

/-- R167: clear and masked, with count 0. -/
def EventFlag.reset : EventFlag where
  isSet := false
  masked := true
  count := 0
  detail := none

/-- The reset arming record (R165). -/
structure Arming where
  source : Nat
  expiry : Nat
deriving DecidableEq, Repr

/-- An OPEN reassembly slot (section 1.8). -/
structure Assembly where
  source : Nat
  code   : Byte
  next   : Nat
  bytes  : List Byte
  expiry : Nat
deriving DecidableEq, Repr

/-- The management block: device mode, event flags, reset arming record, reassembly slots (`none` is FREE). The identity is
fixed and stands in Machine/Management.lean. -/
structure Mgmt where
  mode   : Mode
  flags  : Tab 27 EventFlag
  arming : Option Arming
  slots  : Tab 2 (Option Assembly)
deriving DecidableEq, Repr

/-- MODEL'S OWN, not the spec's: which summaries the event in progress has given cause for. Causes that fall in one event
queue one summary (R74, R107, R127), so they are gathered here and queued as the event ends; between events nothing is
due (assumption log 12). -/
structure Due where
  lanes     : Tab 4 Bool
  helm      : Bool
  couplings : Tab 32 Bool
  command   : Bool
deriving DecidableEq, Repr

/-- Nothing due. -/
def Due.none : Due where
  lanes := Tab.fill 4 false
  helm := false
  couplings := Tab.fill 32 false
  command := false

/-- The state of the part. `now` is the clock (model's own: assumption log 1), `lineAsserted` and `supplyLow` are the two
causes that hold the part in reset (R170), each lasting until its own end, `straps` are the levels of the seven strap lines at the last power-on reset, `node` is the part's node number
(R3), `due` is the model's own, and `pending` is the queue of the commands that wait, first in, first out. -/
structure State where
  now       : Nat
  lineAsserted : Bool
  supplyLow : Bool
  straps    : BitVec 7
  node      : Nat
  switch    : Switch
  intake    : Intake
  lanes     : Lanes
  groups    : Groups
  steering  : Steering
  couplings : Couplings
  fuel      : Fuel
  transfers : Transfers
  mgmt      : Mgmt
  due       : Due
  pending   : List Instr
deriving DecidableEq, Repr

/-- R170: the part is held in reset while the reset line is asserted or the supply is below 15 V. -/
def State.held (s : State) : Bool := s.lineAsserted || s.supplyLow

/-- Why the part could stop. The spec gives every command an effect in every state and names no condition that stops the
part: nothing raises a fault, and the type has no constructor. -/
inductive Fault
deriving DecidableEq, Repr

/-- Why a command has no meaning. -/
inductive Refusal where
  /-- Raised by `exec` for a command that has no meaning yet, by its mnemonic: safe, the model stops where the part goes
  on. No arm raises it. -/
  | notModelled (mnemonic : String)
deriving DecidableEq, Repr

/-- R47: no station in command, HOLDING with the hold started at the reset. The last-heard time, which R47 does not name, is
absent (the model's choice: assumption log 49). -/
def JobRec.reset (now : Nat) : JobRec where
  station := none
  lastHeard := none
  loss := .holding now

/-- The part right after power-on reset (R3, R28 to R31, R33, R45, R47, R50, R82, R94, R98, R107, R110, R127, R142, R143,
R158, R167), with the clock at 0 and no strap tied: an unstrapped board reads 127 and comes up at node 126 (11.7;
assumption log 11). -/
def State.reset : State where
  now := 0
  lineAsserted := false
  supplyLow := false
  straps := 127#7
  node := 126
  switch :=
    { B := PortState.reset
      M := PortState.reset
      T := PortState.reset
      routes := []
      unrouted := 0 }
  intake :=
    { stations := Tab.fill 4 none
      refusals := Tab.fill 4 0
      demandTimeout := 2000
      holdTime := 3000
      prop := JobRec.reset 0
      steer := JobRec.reset 0
      lastRefusal := none
      lastTake := none
      stateAt := 1000 }
  lanes :=
    { rows := Tab.fill 4 none
      recs := Tab.fill 4 (LaneRec.reset 1000)
      ceils := Tab.fill 4 Ceilings.empty }
  groups :=
    { rows := Tab.fill 2 none
      recs := Tab.fill 2 GroupRec.reset }
  steering :=
    { rows := Tab.fill 8 none
      recs := Tab.fill 8 ActRec.reset
      bankA := Tab.fill 8 none
      bankB := Tab.fill 8 none
      active := .A
      complete := false
      helm := 0
      summaryAt := 1000 }
  couplings :=
    { rows := Tab.fill 32 none
      recs := Tab.fill 32 (CoupRec.reset 1000)
      permit := none
      lastRefusal := none }
  fuel :=
    { tanks := Tab.fill 16 none
      accts := Tab.fill 16 TankAcct.reset
      channels := Tab.fill 8 none
      recs := Tab.fill 8 ChanRec.reset }
  transfers :=
    { active := none
      waiting := none
      lastClosed := none
      nextNumber := 1
      soundings := Tab.fill 16 none }
  mgmt :=
    { mode := .passThrough
      flags := Tab.fill 27 EventFlag.reset
      arming := none
      slots := Tab.fill 2 none }
  due := Due.none
  pending := []

end Sys2Proof.Machine
end

