-- ==== Sys2Proof/Machine/Flags.lean ====
section
/-!
DEFINITION. Event flags (section 10.3): the numbering of the 27 events, what one raise does to one flag, and saturating
counters.
-/

namespace Sys2Proof.Machine

/-- The maximum of every saturating counter: 4,294,967,295. -/
def counterMax : Nat := 4294967295

/-- A counter increased by one; it stops at its maximum (section 5.3). -/
def bump (n : Nat) : Nat := if n < counterMax then n + 1 else n

/-- The number of an event (section 10.3). -/
def Event.number : Event → Fin 27
  | .portCongested => 0
  | .ingressOverflow => 1
  | .unrouted => 2
  | .partError => 3
  | .demandRefused => 4
  | .commandHandover => 5
  | .commandLoss => 6
  | .laneFault => 7
  | .outOfStep => 8
  | .leftGroup => 9
  | .steerActuatorFault => 10
  | .actuatorUnreachable => 11
  | .bankSwapped => 12
  | .couplingOverload => 13
  | .couplingLost => 14
  | .couplingFault => 15
  | .couplingRefused => 16
  | .couplingReleased => 17
  | .assistUncoupled => 18
  | .tankReserve => 19
  | .tankOverdrawn => 20
  | .meterImplausible => 21
  | .meterLost => 22
  | .unassignedFlow => 23
  | .transferClosed => 24
  | .reconcileHalted => 25
  | .resetDone => 26

/-- R163: a raise sets a clear flag and takes the detail; of a flag already set it counts an occurrence. -/
def EventFlag.raise (d : Option Nat) (fl : EventFlag) : EventFlag :=
  if fl.isSet then { fl with count := bump fl.count } else { fl with isSet := true, detail := d }

/-- R163: a raise sends an ATTENTION frame exactly when it finds the flag clear and unmasked. -/
def EventFlag.sends (fl : EventFlag) : Bool := !fl.isSet && !fl.masked

/-- R164: a cleared flag, its mask kept. -/
def EventFlag.clear (fl : EventFlag) : EventFlag :=
  { fl with isSet := false, count := 0, detail := none }

end Sys2Proof.Machine
end

