-- ==== Sys2Proof/Machine/Ops.lean ====
section
/-!
DEFINITION. The operations every block shares: the clock, ports and their counters, admission to an egress queue
(R26, R28), raising an event (R163), originating a frame (R7), and marking a summary due.
-/

namespace Sys2Proof.Machine

/-! ## Time -/

/-- A timer is due when it runs and its expiry has come (section 5.5). -/
def isDue (timer : Option Nat) (now : Nat) : Bool :=
  match timer with
  | some e => decide (e ≤ now)
  | none => false

/-- The clock of a step taken at `t`; it never goes back (assumption log 1). -/
def State.at (t : Nat) (s : State) : State := { s with now := max s.now t }

/-! ## Kinds (11.2) -/

/-- The number of a message kind. -/
def MsgKind.number : MsgKind → Byte
  | .speedDemand => 0x20#8
  | .groupDemand => 0x21#8
  | .neutralDemand => 0x22#8
  | .kickDemand => 0x23#8
  | .crashAstern => 0x24#8
  | .helmDemand => 0x25#8
  | .takeCommand => 0x26#8
  | .releaseCommand => 0x27#8
  | .couplingOrder => 0x28#8
  | .engineStatus => 0x40#8
  | .steerStatus => 0x41#8
  | .winchStatus => 0x42#8
  | .pumpStatus => 0x43#8
  | .meterReading => 0x44#8
  | .governorOrder => 0x60#8
  | .steerOrder => 0x61#8
  | .winchOrder => 0x62#8
  | .pumpOrder => 0x63#8
  | .laneSummary => 0x80#8
  | .helmSummary => 0x81#8
  | .couplingSummary => 0x82#8
  | .commandState => 0x83#8
  | .attention => 0x84#8
  | .mgmtReply => 0x85#8
  | .mgmtRequest => 0x90#8

/-- All kinds. -/
def MsgKind.all : List MsgKind :=
  [.speedDemand, .groupDemand, .neutralDemand, .kickDemand, .crashAstern, .helmDemand, .takeCommand, .releaseCommand,
   .couplingOrder, .engineStatus, .steerStatus, .winchStatus, .pumpStatus, .meterReading, .governorOrder, .steerOrder,
   .winchOrder, .pumpOrder, .laneSummary, .helmSummary, .couplingSummary, .commandState, .attention, .mgmtReply,
   .mgmtRequest]

/-- The kind a number stands for, if it is in the message set. -/
def MsgKind.ofNumber (b : Byte) : Option MsgKind := MsgKind.all.find? (fun k => k.number == b)

/-- The status kinds, which are observed in PASS_THROUGH (R17). -/
def MsgKind.isStatus : MsgKind → Bool
  | .engineStatus | .steerStatus | .winchStatus | .pumpStatus | .meterReading => true
  | _ => false

/-- The class of the frames the part originates (R7). -/
def MsgKind.cls : MsgKind → BitVec 3
  | .governorOrder | .steerOrder => 1#3
  | .winchOrder | .pumpOrder | .attention => 2#3
  | .mgmtReply => 3#3
  | _ => 5#3

/-- The code of a port in a detail or a request (11.6). -/
def portCode : Port → Nat
  | .B => 0
  | .M => 1
  | .T => 2

/-! ## Ports -/

/-- The switch's state of a port. -/
def State.port (s : State) : Port → PortState
  | .B => s.switch.B
  | .M => s.switch.M
  | .T => s.switch.T

/-- The state with a port's part replaced. -/
def State.setPort (p : Port) (ps : PortState) (s : State) : State :=
  match p with
  | .B => { s with switch := { s.switch with B := ps } }
  | .M => { s with switch := { s.switch with M := ps } }
  | .T => { s with switch := { s.switch with T := ps } }

/-- The malformed counter of a port increased by one (R30). -/
def State.countMalformed (p : Port) (s : State) : State :=
  s.setPort p { s.port p with malformed := bump (s.port p).malformed }

/-! ## Egress admission (R26, R28) -/

/-- Whether an admitted frame counts as forwarded or as originated (R30). -/
inductive Origin where
  | forwarded | originated
deriving DecidableEq, Repr

/-- Classes 0 to 3 are control frames, 4 to 7 routine frames (R2). -/
def CmsFrame.isControl (f : CmsFrame) : Bool := decide (f.id.cls.toNat ≤ 3)

/-- The depth of an egress queue: at most 48 frames (R26). -/
def egressMax : Nat := 48

/-- The depth of an ingress queue: at most 32 frames (R14). -/
def ingressMax : Nat := 32

/-- R26: the queue less its newest routine frame, if it holds one. -/
def dropNewestRoutine : List CmsFrame → Option (List CmsFrame)
  | [] => none
  | f :: fs =>
    match dropNewestRoutine fs with
    | some rest => some (f :: rest)
    | none => if f.isControl then none else some fs

/-- The counter of an admitted frame. -/
def PortState.countIn (o : Origin) (ps : PortState) : PortState :=
  match o with
  | .forwarded => { ps with forwarded := bump ps.forwarded }
  | .originated => { ps with originated := bump ps.originated }

/-- R26 and R28 for one port: the port after a frame is offered to its egress queue. -/
def PortState.offered (o : Origin) (f : CmsFrame) (ps : PortState) : PortState :=
  if ps.egress.length < egressMax then
    { ps.countIn o with
      egress := ps.egress ++ [f]
      armed := ps.armed && decide (ps.egress.length + 1 ≠ 36) }
  else if f.isControl then
    match dropNewestRoutine ps.egress with
    | some rest => { ps.countIn o with egress := rest ++ [f], egressDropped := bump ps.egressDropped }
    | none => { ps with controlOverflow := bump ps.controlOverflow }
  else { ps with egressDropped := bump ps.egressDropped }

/-- R26 and R28: whether an offer raises PORT_CONGESTED: an admission that brings the depth to 36 with the mark armed,
or a control frame refused for want of a routine frame. -/
def PortState.congests (f : CmsFrame) (ps : PortState) : Bool :=
  if ps.egress.length < egressMax then ps.armed && decide (ps.egress.length + 1 = 36)
  else f.isControl && (dropNewestRoutine ps.egress).isNone

/-! ## Frames the part originates, and events -/

/-- A single-frame message of the part (R7, section 1.2). -/
def State.frameOf (s : State) (k : MsgKind) (target : Nat) (data : List Byte) : CmsFrame where
  id := { cls := k.cls, kind := k.number, source := BitVec.ofNat 7 s.node, target := BitVec.ofNat 7 target,
          last := true, part := 0#3 }
  data := data

/-- The state after a frame is offered to a port's egress queue, leaving aside the event it may raise. -/
def State.enqueue (p : Port) (o : Origin) (f : CmsFrame) (s : State) : State :=
  s.setPort p ((s.port p).offered o f)

/-- The flag of an event. -/
def State.flag (s : State) (e : Event) : EventFlag := s.mgmt.flags.get e.number

/-- The state with an event's flag after one raise, leaving aside the ATTENTION frame. -/
def State.latch (e : Event) (d : Option Nat) (s : State) : State :=
  { s with mgmt := { s.mgmt with flags := s.mgmt.flags.set e.number ((s.flag e).raise d) } }

/-- The data of an ATTENTION frame (11.6): event number and detail, 255 for none. -/
def attentionData (e : Event) (d : Option Nat) : List Byte := [byte e.number.val, byte (d.getD 255)]

/-- PORT_CONGESTED raised with a port (R26, R28). Its own ATTENTION frame, offered to B, may raise it again: the flag is
set by then, so that raise counts as an occurrence and queues nothing (note to R28). -/
def State.raiseCongested (p : Port) (s : State) : State :=
  let s1 := s.latch .portCongested (some (portCode p))
  if (s.flag .portCongested).sends then
    let f := s1.frameOf .attention 0 (attentionData .portCongested (some (portCode p)))
    let s2 := s1.enqueue .B .originated f
    if (s1.port .B).congests f then s2.latch .portCongested (some (portCode .B)) else s2
  else s1

/-- A frame offered to a port's egress queue (R26), with the event the offer raises. -/
def State.offer (p : Port) (o : Origin) (f : CmsFrame) (s : State) : State :=
  if (s.port p).congests f then (s.enqueue p o f).raiseCongested p else s.enqueue p o f

/-- An event raised (R163), its ATTENTION frame carrying `data`. -/
def State.raiseWith (e : Event) (d : Option Nat) (data : List Byte) (s : State) : State :=
  if (s.flag e).sends then
    let s1 := s.latch e d
    s1.offer .B .originated (s1.frameOf .attention 0 data)
  else s.latch e d

/-- An event raised (R163). -/
def State.raise (e : Event) (d : Option Nat) (s : State) : State := s.raiseWith e d (attentionData e d)

/-- A frame of the part placed in a port's egress queue (R7). -/
def State.originate (p : Port) (k : MsgKind) (target : Nat) (data : List Byte) (s : State) : State :=
  s.offer p .originated (s.frameOf k target data)

/-- Frames of the part queued together with no other frame placed between them (R13, R107, R169): the events the offers
raise follow the last of them (assumption log 25). -/
def State.originateAll (p : Port) (fs : List CmsFrame) (s : State) : State :=
  match fs with
  | [] => s
  | f :: rest =>
    let s' := State.originateAll p rest (s.enqueue p .originated f)
    if (s.port p).congests f then s'.raiseCongested p else s'

/-- R162: the orders that a device mode lets the part originate. -/
def orderAllowed (m : Mode) : MsgKind → Bool
  | .governorOrder | .steerOrder => decide (m = .coordinating)
  | .winchOrder | .pumpOrder => decide (m ≠ .passThrough)
  | _ => true

/-- An order to a node on the port of its table row (R7, R162). -/
def State.order (p : Port) (k : MsgKind) (target : Nat) (data : List Byte) (s : State) : State :=
  if orderAllowed s.mgmt.mode k then s.originate p k target data else s

/-! ## Summaries due -/

/-- The lane's summary is due as this event ends (R74). -/
def State.dueLane (l : Fin 4) (s : State) : State :=
  { s with due := { s.due with lanes := s.due.lanes.set l true } }

/-- The helm summary is due as this event ends (R107). -/
def State.dueHelm (s : State) : State := { s with due := { s.due with helm := true } }

/-- The coupling's summary is due as this event ends (R127). -/
def State.dueCoupling (c : Fin 32) (s : State) : State :=
  { s with due := { s.due with couplings := s.due.couplings.set c true } }

/-- A COMMAND_STATE is due as this event ends (R45). -/
def State.dueCommand (s : State) : State := { s with due := { s.due with command := true } }

/-! ## Doing the same at every place of a table, in ascending order -/

/-- `f` at each listed place in turn. -/
def forEach {ι : Type} (is : List ι) (f : ι → State → State) (s : State) : State :=
  is.foldl (fun s i => f i s) s

/-- `f` at every index of a table, in ascending order. -/
def forAll (n : Nat) (f : Fin n → State → State) (s : State) : State := forEach (indices n) f s

end Sys2Proof.Machine
end

