-- ==== Sys2Proof/Machine/Operands.lean ====
section
/-!
DEFINITION. What the data bytes of a frame or a request say: the demands (11.3), the node status frames (11.4), the tests
of R6 and R168 on a delivered frame, and the table rows of LOAD_ROW (11.6) with the field ranges of each table's chapter.
-/

namespace Sys2Proof.Machine

/-! ## Tests on a delivered frame (R6, R168) -/

/-- The blocks that own kinds consume 15 of the 25 (section 1.5). -/
def MsgKind.hasOwner : MsgKind → Bool
  | .governorOrder | .steerOrder | .winchOrder | .pumpOrder | .laneSummary | .helmSummary | .couplingSummary
  | .commandState | .attention | .mgmtReply => false
  | _ => true

/-- The shortest data field an owner accepts (11.2). -/
def MsgKind.minLength : MsgKind → Nat
  | .speedDemand | .groupDemand | .engineStatus | .winchStatus | .governorOrder | .winchOrder => 4
  | .neutralDemand | .releaseCommand | .pumpStatus | .mgmtRequest => 1
  | .kickDemand => 5
  | .crashAstern => 0
  | .helmDemand | .couplingOrder | .pumpOrder | .attention | .mgmtReply => 2
  | .takeCommand | .meterReading | .laneSummary | .helmSummary | .couplingSummary => 8
  | .steerStatus | .steerOrder => 3
  | .commandState => 7

/-- A direction by its code (11.2). -/
def dirOfCode : Nat → Option Dir
  | 0 => some .neutral
  | 1 => some .ahead
  | 2 => some .astern
  | _ => none

/-- The code of a direction, gear or gain column (11.2). -/
def Dir.code : Dir → Nat
  | .neutral => 0
  | .ahead => 1
  | .astern => 2

/-- A job by its code (11.2). -/
def jobOfCode : Nat → Option Job
  | 0 => some .prop
  | 1 => some .steer
  | _ => none

/-- The code of a job, which is also its detail (11.2, 11.6). -/
def jobCode : Job → Nat
  | .prop => 0
  | .steer => 1

/-- A drum report by its code (11.2). -/
def drumOfCode : Nat → Option Drum
  | 0 => some .heaving
  | 1 => some .holding
  | 2 => some .payingOut
  | 3 => some .free
  | _ => none

/-- The code of a drum report (11.2). -/
def Drum.code : Drum → Nat
  | .heaving => 0
  | .holding => 1
  | .payingOut => 2
  | .free => 3

/-- A coupling order by its code (11.2). -/
def orderOfCode : Nat → Option CoupOrder
  | 0 => some .makeUp
  | 1 => some .ease
  | 2 => some .release
  | 3 => some .lock
  | 4 => some .unlock
  | 5 => some .lockAll
  | 6 => some .unlockAll
  | 7 => some .permit
  | _ => none

/-- A reported gear: a direction, or MOVING as `none` (section 4.3). -/
def gearOfCode : Nat → Option (Option Dir)
  | 0 => some (some .neutral)
  | 1 => some (some .ahead)
  | 2 => some (some .astern)
  | 3 => some none
  | _ => none

/-- A lever of TAKE_COMMAND: direction code and speed in 0.1 rpm. The four levers are 14 bits each, packed from the most
significant bit of byte 1: a 2-bit direction and a 12-bit speed in whole rpm (11.2). -/
def leverBits (d : List Byte) (l : Fin 4) : Nat :=
  ((u8 d 1 * 2 ^ 48 + u16 d 2 * 2 ^ 32 + u32 d 4) / 2 ^ (14 * (3 - l.val))) % 2 ^ 14

/-- The direction code of a lever. -/
def leverDir (d : List Byte) (l : Fin 4) : Nat := leverBits d l / 4096

/-- The speed of a lever in 0.1 rpm: ten times the speed in whole rpm. -/
def leverSpeed (d : List Byte) (l : Fin 4) : Nat := leverBits d l % 4096 * 10

/-- R168: every coded field of the kind's layout holds a listed code. -/
def codesListed (k : MsgKind) (d : List Byte) : Bool :=
  match k with
  | .speedDemand | .groupDemand | .kickDemand => (dirOfCode (u8 d 1)).isSome
  | .engineStatus => (gearOfCode (u8 d 1)).isSome
  | .takeCommand =>
    match jobOfCode (u8 d 0) with
    | none => false
    | some .steer => true
    | some .prop => (indices 4).all (fun l => (dirOfCode (leverDir d l)).isSome)
  | .releaseCommand => (jobOfCode (u8 d 0)).isSome
  | .couplingOrder => (orderOfCode (u8 d 0)).isSome
  | .winchStatus => (drumOfCode (u8 d 2)).isSome
  | _ => true

/-- R6 and R168: the frame is handed to its owner. -/
def handable (k : MsgKind) (d : List Byte) : Bool := decide (k.minLength ≤ d.length) && codesListed k d

/-! ## Demands (11.2, 11.3) -/

/-- The direction a demand carries in byte 1; R168 has excluded the codes that name none. -/
def demandDir (d : List Byte) : Dir := (dirOfCode (u8 d 1)).getD .neutral

/-- The job a take or release names in byte 0. -/
def demandJob (d : List Byte) : Job := (jobOfCode (u8 d 0)).getD .prop

/-- The order of a COUPLING_ORDER. -/
def demandOrder (d : List Byte) : CoupOrder := (orderOfCode (u8 d 0)).getD .permit

/-- The orders that name a coupling (section 7.5). -/
def CoupOrder.namesCoupling : CoupOrder → Bool
  | .makeUp | .ease | .release | .lock | .unlock => true
  | .lockAll | .unlockAll | .permit => false

/-- The coupling a COUPLING_ORDER names, when it names one of 0 to 31. -/
def demandCoupling (d : List Byte) : Option (Fin 32) :=
  if (demandOrder d).namesCoupling then idx 32 (u8 d 1) else none

/-! ## Node status (11.4) -/

/-- ENGINE_STATUS (section 4.3); gear `none` is MOVING. -/
structure EngineReport where
  running   : Bool
  localMode : Bool
  alarm     : Bool
  gear      : Option Dir
  speed     : Nat
deriving DecidableEq, Repr

/-- The content of an ENGINE_STATUS. -/
def engineReport (d : List Byte) : EngineReport where
  running := bitOf d 0 0
  localMode := bitOf d 0 1
  alarm := bitOf d 0 2
  gear := (gearOfCode (u8 d 1)).getD none
  speed := u16 d 2

/-- WINCH_STATUS (section 7.3). -/
structure WinchReport where
  tension  : Nat
  drum     : Drum
  hookOpen : Bool
  fault    : Bool
deriving DecidableEq, Repr

/-- The content of a WINCH_STATUS; a tension above 4,000 is taken as 4,000 kN (R168). -/
def winchReport (d : List Byte) : WinchReport where
  tension := min 4000 (u16 d 0)
  drum := (drumOfCode (u8 d 2)).getD .heaving
  hookOpen := bitOf d 3 0
  fault := bitOf d 3 1

/-- METER_READING (section 8.3). -/
structure MeterReport where
  supply     : Nat
  supplyTemp : Int
  return_    : Nat
  returnTemp : Int
deriving DecidableEq, Repr

/-- The content of a METER_READING. -/
def meterReport (d : List Byte) : MeterReport where
  supply := u16 d 0
  supplyTemp := i16 d 2
  return_ := u16 d 4
  returnTemp := i16 d 6

/-! ## Table rows (11.6): field codes -/

/-- The node tests of R4. -/
def nodeOk (own n : Nat) : Bool := decide (1 ≤ n) && decide (n ≤ 126) && decide (n ≠ own)

/-- `lo ≤ v ≤ hi`. -/
def within (lo hi v : Nat) : Bool := decide (lo ≤ v) && decide (v ≤ hi)

/-- The port of a row: 1 M, 2 T. -/
def rowPort : Nat → Option Port
  | 1 => some .M
  | 2 => some .T
  | _ => none

/-- 0 MAIN, 1 ASSIST. -/
def rowBoat : Nat → Option Boat
  | 0 => some .main
  | 1 => some .assist
  | _ => none

/-- The home step group: 255 none, 0 or 1. -/
def rowHome : Nat → Option (Option (Fin 2))
  | 255 => some none
  | 0 => some (some 0)
  | 1 => some (some 1)
  | _ => none

/-- 0 MAIN_RUDDER, 1 FLANKING_RUDDER, 2 THRUSTER. -/
def rowActKind : Nat → Option ActKind
  | 0 => some .mainRudder
  | 1 => some .flankingRudder
  | 2 => some .thruster
  | _ => none

/-- 0 FACE, 1 TIER, 2 BREAST, 3 ASSIST. -/
def rowCoupKind : Nat → Option CoupKind
  | 0 => some .face
  | 1 => some .tier
  | 2 => some .breast
  | 3 => some .assist
  | _ => none

/-- 0 MAIN, 1 ASSIST, 2 none. -/
def rowBears : Nat → Option (Option Boat)
  | 0 => some (some .main)
  | 1 => some (some .assist)
  | 2 => some none
  | _ => none

/-- 0 STORAGE, 1 FEED, 2 BARGE. -/
def rowTankKind : Nat → Option TankKind
  | 0 => some .storage
  | 1 => some .feed
  | 2 => some .barge
  | _ => none

/-- 0 ENGINE, 1 TRANSFER. -/
def rowChanKind : Nat → Option ChanKind
  | 0 => some .engine
  | 1 => some .transfer
  | _ => none

/-! ## Table rows (11.6): the rows, with the ranges of their chapters. `m` is the whole request, the row from byte 3 on. -/

/-- A route entry (R19). -/
def routeEntryOf (own : Nat) (m : List Byte) : Option RouteEntry :=
  let source := absentAs 255 (u8 m 4)
  let rewrite := absentAs 255 (u8 m 7)
  let interval := absentAs 0 (u16 m 8)
  if (match source with | none => true | some n => nodeOk own n)
      && (match rewrite with | none => true | some n => decide (n ≤ 126) && decide (n ≠ own))
      && (match interval with | none => true | some i => within 10 10000 i)
      && decide (u8 m 5 < 8) && decide (u8 m 6 < 2)
  then some
    { kind := u8 m 3
      source := source
      forward := { B := bitOf m 5 0, M := bitOf m 5 1, T := bitOf m 5 2 }
      deliver := bitOf m 6 0
      rewrite := rewrite
      interval := interval
      hits := 0
      lastForward := none }
  else none

/-- A station row (section 3.1). -/
def stationRowOf (own : Nat) (m : List Byte) : Option StationRow :=
  if nodeOk own (u8 m 3) && decide (u8 m 4 < 16) && decide (u16 m 5 ≤ 2000) && decide (u16 m 7 ≤ 200)
  then some
    { node := u8 m 3
      prop := bitOf m 4 0
      steer := bitOf m 4 1
      couple := bitOf m 4 2
      override := bitOf m 4 3
      speedTol := u16 m 5
      helmTol := u16 m 7 }
  else none

/-- The ranges of a lane row (section 4.1). -/
def LaneRow.inRange (own : Nat) (r : LaneRow) : Bool :=
  nodeOk own r.node
  && within 3000 12000 r.idle
  && within r.idle 30000 r.maxAhead
  && within r.idle 30000 r.maxAstern
  && within r.idle r.maxAhead r.reserveCap
  && within 1 500 r.rampUp
  && within 1 500 r.rampDown
  && within 1 500 r.crashRampDown
  && within 500 10000 r.clutchTimeout
  && within 500 10000 r.neutralTimeout
  && within 1000 30000 r.reversalDwell
  && within 500 r.reversalDwell r.crashDwell
  && within r.idle r.maxAstern r.crashSpeed
  && within 50 1000 r.refresh
  && within 200 5000 r.statusTimeout

/-- A lane row (section 4.1). -/
def laneRowOf (own : Nat) (m : List Byte) : Option LaneRow :=
  match rowPort (u8 m 4), rowBoat (u8 m 5), idx 16 (u8 m 6), idx 8 (u8 m 7), rowHome (u8 m 8) with
  | some port, some boat, some tank, some channel, some home =>
    let r : LaneRow :=
      { node := u8 m 3
        port := port
        boat := boat
        feedTank := tank
        channel := channel
        home := home
        idle := u16 m 9
        maxAhead := u16 m 11
        maxAstern := u16 m 13
        reserveCap := u16 m 15
        rampUp := u16 m 17
        rampDown := u16 m 19
        crashRampDown := u16 m 21
        clutchTimeout := u16 m 23
        neutralTimeout := u16 m 25
        reversalDwell := u16 m 27
        crashDwell := u16 m 29
        crashSpeed := u16 m 31
        refresh := u16 m 33
        statusTimeout := u16 m 35 }
    if r.inRange own then some r else none
  | _, _, _, _, _ => none

/-- A group row (R81). -/
def groupRowOf (m : List Byte) : Option GroupRow :=
  if within 10 2000 (u16 m 3) && within 1000 30000 (u16 m 5)
  then some { tolerance := u16 m 3, holdLimit := u16 m 5 }
  else none

/-- The reach path bytes of an actuator row: each names a coupling and none is named twice (R92). -/
def reachPathOf : List Nat → Option (List (Fin 32))
  | [] => some []
  | v :: vs =>
    match idx 32 v, reachPathOf vs with
    | some c, some cs => if cs.contains c then none else some (c :: cs)
    | _, _ => none

/-- The ranges of an actuator row (section 6.1, R92). -/
def ActRow.inRange (own : Nat) (r : ActRow) : Bool :=
  nodeOk own r.node
  && (match r.kind with
      | .thruster => decide (r.fullScale = 1000)
      | .mainRudder | .flankingRudder => within 1 900 r.fullScale)
  && within 1 r.fullScale r.limit
  && within 1 r.fullScale r.rate
  && within 50 1000 r.refresh
  && within 200 5000 r.statusTimeout

/-- An actuator row (section 6.1). -/
def actRowOf (own : Nat) (m : List Byte) : Option ActRow :=
  match rowPort (u8 m 4), rowActKind (u8 m 5), idx 4 (u8 m 6),
      (if u8 m 13 ≤ 4 then reachPathOf (([u8 m 14, u8 m 15, u8 m 16, u8 m 17]).take (u8 m 13)) else none) with
  | some port, some kind, some lane, some path =>
    let r : ActRow :=
      { node := u8 m 3
        port := port
        kind := kind
        lane := lane
        fullScale := u16 m 7
        limit := u16 m 9
        rate := u16 m 11
        path := path
        refresh := u16 m 18
        statusTimeout := u16 m 20 }
    if r.inRange own then some r else none
  | _, _, _, _ => none

/-- The three gains of a bank row (R95). -/
def gainsOf (m : List Byte) : Option Gains :=
  let ok (g : Int) : Bool := decide (-1000 ≤ g) && decide (g ≤ 1000)
  if ok (i16 m 3) && ok (i16 m 5) && ok (i16 m 7)
  then some { ahead := i16 m 3, astern := i16 m 5, neutral := i16 m 7 }
  else none

/-- The ranges of a coupling row (section 7.1, R108). -/
def CoupRow.inRange (own : Nat) (r : CoupRow) : Bool :=
  nodeOk own r.node
  && (match r.kind with
      | .face => decide (r.bears = some .main)
      | .assist => decide (r.bears = some .assist)
      | .tier | .breast => true)
  && within 1 4000 r.makeUpTarget
  && within 0 1000 r.makeUpBand
  && within 0 3999 r.soft
  && within (r.soft + 1) 4000 r.hard
  && within 0 1000 r.floor
  && within 0 3999 r.slackLimit
  && decide (r.slackLimit + r.makeUpBand < r.makeUpTarget)
  && within 500 30000 r.slackTime
  && within 1000 120000 r.makeUpTimeout
  && within 1000 120000 r.easeTimeout
  && within 1000 60000 r.releaseTimeout
  && within 200 5000 r.statusTimeout

/-- A coupling row (section 7.1). -/
def coupRowOf (own : Nat) (m : List Byte) : Option CoupRow :=
  match rowPort (u8 m 4), rowCoupKind (u8 m 5), rowBears (u8 m 6) with
  | some port, some kind, some bears =>
    let r : CoupRow :=
      { node := u8 m 3
        port := port
        kind := kind
        bears := bears
        makeUpTarget := u16 m 7
        makeUpBand := u16 m 9
        soft := u16 m 11
        hard := u16 m 13
        floor := u16 m 15
        slackLimit := u16 m 17
        slackTime := u16 m 19
        makeUpTimeout := u32 m 21
        easeTimeout := u32 m 25
        releaseTimeout := u16 m 29
        statusTimeout := u16 m 31 }
    if r.inRange own then some r else none
  | _, _, _ => none

/-- The ranges of a tank definition (section 8.1, R128). -/
def TankRow.inRange (r : TankRow) : Bool :=
  within 1 500000 r.capacity
  && decide (r.reserve ≤ r.capacity)
  && decide (r.hysteresis ≤ r.capacity)
  && decide (r.fullMargin ≤ r.capacity)
  && within 6000 10000 r.density
  && decide (r.alpha ≤ 2000)
  && (match r.kind with
      | .barge => r.hose.isSome
      | .storage | .feed => r.hose.isNone)

/-- A tank definition (section 8.1); hose coupling byte 255 is absent. -/
def tankRowOf (m : List Byte) : Option TankRow :=
  match rowTankKind (u8 m 3),
      (match absentAs 255 (u8 m 24) with | none => some none | some v => (idx 32 v).map some) with
  | some kind, some hose =>
    let r : TankRow :=
      { kind := kind
        capacity := u32 m 4
        reserve := u32 m 8
        hysteresis := u32 m 12
        fullMargin := u32 m 16
        density := u16 m 20
        alpha := u16 m 22
        hose := hose }
    if r.inRange then some r else none
  | _, _ => none

/-- The ranges of a meter channel row (section 8.2). -/
def ChanRow.inRange (own : Nat) (r : ChanRow) : Bool :=
  nodeOk own r.node
  && within 1 65535 r.supplyPulse
  && (match r.kind with
      | .engine => r.returnPulse.isSome
      | .transfer => r.returnPulse.isNone)
  && within 1 65535 r.cap
  && within 500 60000 r.timeout
  && within 6000 10000 r.density

/-- A meter channel row (section 8.2); a return pulse value of 0 is absent. -/
def chanRowOf (own : Nat) (m : List Byte) : Option ChanRow :=
  match rowChanKind (u8 m 4) with
  | some kind =>
    let r : ChanRow :=
      { node := u8 m 3
        kind := kind
        supplyPulse := u16 m 5
        returnPulse := absentAs 0 (u16 m 7)
        cap := u16 m 9
        timeout := u16 m 11
        density := u16 m 13 }
    if r.inRange own then some r else none
  | none => none

end Sys2Proof.Machine
end

