-- ==== Sys2Proof/Machine/Steering.lean ====
section
/-!
DEFINITION. The steering allocator (chapter 6): evaluation, target arithmetic, rate steps, orders, status, reach.
-/

namespace Sys2Proof.Machine

/-! ## What the allocator reads of other blocks -/

/-- A coupling counts as MADE_FAST when its row is loaded and its state is MADE_FAST (R106, R109). -/
def State.madeFast (s : State) (c : Fin 32) : Bool :=
  (s.couplings.rows.get c).isSome && decide ((s.couplings.recs.get c).state = .madeFast)

/-- R106: every coupling on the reach path is MADE_FAST. -/
def State.reachable (s : State) (row : ActRow) : Bool := row.path.all (fun c => s.madeFast c)

/-- R100: the gain column of an actuator, from its reference lane's state. -/
def State.columnOf (s : State) (l : Fin 4) : Dir :=
  match s.lanes.rows.get l with
  | none => .neutral
  | some _ =>
    match (s.lanes.recs.get l).state with
    | .ahead => .ahead
    | .astern => .astern
    | .unsynced | .stopped | .neutral | .engaging | .rampdown | .declutch | .fault => .neutral

/-! ## Evaluation (R100, R101) -/

/-- The rows of a bank. -/
def Steering.bank (st : Steering) : Bank → Tab 8 (Option Gains)
  | .A => st.bankA
  | .B => st.bankB

/-- The bank that is not the given one. -/
def Bank.other : Bank → Bank
  | .A => .B
  | .B => .A

/-- The steering state with a bank's rows replaced. -/
def Steering.setBank (b : Bank) (rows : Tab 8 (Option Gains)) (st : Steering) : Steering :=
  match b with
  | .A => { st with bankA := rows }
  | .B => { st with bankB := rows }

/-- The gain a column picks. -/
def Gains.of (g : Gains) : Dir → Int
  | .ahead => g.ahead
  | .astern => g.astern
  | .neutral => g.neutral

/-- The gain of an actuator in a column, 0 when the active bank has no row for it (R98). -/
def State.gain (s : State) (a : Fin 8) (col : Dir) : Int :=
  match (s.steering.bank s.steering.active).get a with
  | none => 0
  | some g => g.of col

/-- R101: h × g × F / 1,000,000, truncated toward zero and held within ± limit. -/
def actTarget (h g : Int) (fullScale limit : Nat) : Int :=
  clampInt (-(limit : Int)) limit (Int.tdiv (h * g * fullScale) 1000000)

/-- An actuator's record replaced; a change of its state makes the helm summary due (R107). -/
def State.putAct (a : Fin 8) (r : ActRec) (s : State) : State :=
  let s1 := { s with steering := { s.steering with recs := s.steering.recs.set a r } }
  if (s.steering.recs.get a).state = r.state then s1 else s1.dueHelm

/-- R100: one actuator evaluated. -/
def State.evaluate (a : Fin 8) (s : State) : State :=
  match s.steering.rows.get a with
  | none => s
  | some row =>
    let col := s.columnOf row.lane
    let target := actTarget s.steering.helm (s.gain a col) row.fullScale row.limit
    s.putAct a { s.steering.recs.get a with column := col, target := target }

/-- Every loaded actuator evaluated (R97, R99). -/
def State.evaluateAll (s : State) : State := forAll 8 State.evaluate s

/-- The actuators whose reference lane is `l` evaluated (R100). -/
def State.evaluateLane (l : Fin 4) (s : State) : State :=
  forAll 8 (fun a s =>
    match s.steering.rows.get a with
    | some row => if row.lane = l then s.evaluate a else s
    | none => s) s

/-! ## Orders and entries (R103, R104, R106) -/

/-- A STEER_ORDER carrying a value (11.2). -/
def State.steerOrder (a : Fin 8) (row : ActRow) (v : Int) (s : State) : State :=
  s.order row.port .steerOrder row.node (byte a.val :: beInt16 v)

/-- R103: the actuator's order queued, carrying its commanded value; its refresh timer restarts. -/
def State.orderAct (a : Fin 8) (s : State) : State :=
  match s.steering.rows.get a with
  | none => s
  | some row =>
    let r := s.steering.recs.get a
    (s.putAct a { r with refreshTimer := some (s.now + row.refresh) }).steerOrder a row r.commanded

/-- Entry to TRACKING with a commanded value (R104 to R106); the status timer counts from `since`. -/
def State.enterTracking (a : Fin 8) (row : ActRow) (v : Int) (since : Nat) (s : State) : State :=
  let r := s.steering.recs.get a
  (((s.putAct a { r with state := .tracking, commanded := v, rateTimer := some (s.now + 100),
                         statusTimer := some (since + row.statusTimeout) }).evaluate a).orderAct a)

/-- Entry to UNREACHABLE (R106): values 0, timers stopped, one STEER_ORDER 0, ACTUATOR_UNREACHABLE raised. -/
def State.enterUnreachable (a : Fin 8) (row : ActRow) (s : State) : State :=
  let r := s.steering.recs.get a
  let s1 := s.putAct a { r with state := .unreachable, commanded := 0, target := 0, rateTimer := none,
                                refreshTimer := none, statusTimer := none }
  (s1.steerOrder a row 0).raise .actuatorUnreachable (some a.val)

/-- Adoption (R104) or recovery from FAULT (R105) from a reported position: TRACKING at that position, held within
± limit, when the actuator is reachable, and UNREACHABLE otherwise. -/
def State.adoptAct (a : Fin 8) (row : ActRow) (position : Int) (arrival : Nat) (s : State) : State :=
  if s.reachable row then s.enterTracking a row (clampInt (-(row.limit : Int)) row.limit position) arrival
  else s.enterUnreachable a row

/-! ## Events of the allocator -/

/-- The actuator whose loaded row names a node. -/
def State.actOf (s : State) (node : Nat) : Option (Fin 8) :=
  (indices 8).find? (fun a => match s.steering.rows.get a with
    | some row => row.node == node
    | none => false)

/-- STEER_STATUS taken (R104, R105). -/
def State.takeSteer (q : Received) (s : State) : State :=
  match s.actOf q.frame.id.source.toNat with
  | none => s
  | some a =>
    match s.steering.rows.get a with
    | none => s
    | some row =>
      let old := s.steering.recs.get a
      let position := i16 q.frame.data 0
      let alarm := bitOf q.frame.data 2 0
      let r := { old with position := some position, alarm := some alarm }
      let s1 := s.putAct a r
      let s2 := if old.alarm = some alarm then s1 else s1.dueHelm
      if s.mgmt.mode = .coordinating then
        match r.state with
        | .unsynced | .fault => s2.adoptAct a row position q.arrival
        | .tracking => s2.putAct a { r with statusTimer := some (q.arrival + row.statusTimeout) }
        | .unreachable => s2
      else s2

/-- The helm target set (R99): a different value is a change, an equal one a refresh. -/
def State.setHelm (v : Int) (s : State) : State :=
  if v = s.steering.helm then s
  else ({ s with steering := { s.steering with helm := v } }.evaluateAll).dueHelm

/-- One rate step: toward the target by at most the rate (R102). -/
def rateStep (rate : Nat) (target commanded : Int) : Int :=
  if commanded < target then min (commanded + rate) target
  else if target < commanded then max (commanded - rate) target
  else commanded

/-- The rate timer of an actuator expires (R102, R103). -/
def State.actRate (a : Fin 8) (s : State) : State :=
  let r := s.steering.recs.get a
  match s.steering.rows.get a, r.rateTimer with
  | some row, some e =>
    if r.state = .tracking ∧ e ≤ s.now then
      let v := rateStep row.rate r.target r.commanded
      let s1 := s.putAct a { r with commanded := v, rateTimer := some (e + 100) }
      if v = r.commanded then s1 else s1.orderAct a
    else s
  | _, _ => s

/-- The refresh timer of an actuator expires (R103). -/
def State.actRefresh (a : Fin 8) (s : State) : State :=
  let r := s.steering.recs.get a
  if r.state = .tracking ∧ isDue r.refreshTimer s.now then s.orderAct a else s

/-- The status timer of an actuator expires (R105). -/
def State.actTimeout (a : Fin 8) (s : State) : State :=
  let r := s.steering.recs.get a
  if (r.state = .unsynced ∨ r.state = .tracking) ∧ isDue r.statusTimer s.now then
    (s.putAct a { r with state := .fault, rateTimer := none, refreshTimer := none,
                         statusTimer := none }).raise .steerActuatorFault (some a.val)
  else s

/-- R106: reach tested again for one actuator. -/
def State.retestReach (a : Fin 8) (s : State) : State :=
  match s.steering.rows.get a with
  | none => s
  | some row =>
    match (s.steering.recs.get a).state with
    | .tracking => if s.reachable row then s else s.enterUnreachable a row
    | .unreachable => if s.reachable row then s.enterTracking a row 0 s.now else s
    | .unsynced | .fault => s

/-- R106, R125: reach tested again for every actuator whose reach path names a coupling, in ascending index, which no rule
states (the model's choice: assumption log 58). -/
def State.retestReachOf (c : Fin 32) (s : State) : State :=
  forAll 8 (fun a s =>
    match s.steering.rows.get a with
    | some row => if row.path.contains c then s.retestReach a else s
    | none => s) s

/-- R94: an actuator at its reset values, keeping what it last reported (entry to PASS_THROUGH or LAID_UP). -/
def State.unsyncAct (a : Fin 8) (s : State) : State :=
  let r := s.steering.recs.get a
  s.putAct a { ActRec.reset with position := r.position, alarm := r.alarm }

/-- R94: the status timer of a loaded actuator starts as the mode becomes COORDINATING. -/
def State.startActTimer (a : Fin 8) (s : State) : State :=
  match s.steering.rows.get a with
  | none => s
  | some row => s.putAct a { s.steering.recs.get a with statusTimer := some (s.now + row.statusTimeout) }

end Sys2Proof.Machine
end

