-- ==== Sys2Proof/Machine/Winch.lean ====
section
/-!
DEFINITION. Coupling records and winch orders: the operations of the coupling supervisor that other blocks' events reach
(R117, R120, R124).
-/

namespace Sys2Proof.Machine

/-- A coupling's record replaced; a change of its state, lock or overload flag makes its summary due (R127). -/
def State.putCoup (c : Fin 32) (r : CoupRec) (s : State) : State :=
  let old := s.couplings.recs.get c
  let s1 := { s with couplings := { s.couplings with recs := s.couplings.recs.set c r } }
  if old.state = r.state ∧ old.lock = r.lock ∧ old.overload = r.overload then s1 else s1.dueCoupling c

/-- The actions of WINCH_ORDER (R120). -/
inductive WinchAction where
  | heave | hold | payOut | openHook
deriving DecidableEq, Repr

/-- The code of a winch action (11.2). -/
def WinchAction.code : WinchAction → Nat
  | .heave => 0
  | .hold => 1
  | .payOut => 2
  | .openHook => 3

/-- A WINCH_ORDER to the coupling's winch (R120, 11.2): the make-up target goes with HEAVE, otherwise 0. -/
def State.winchOrder (c : Fin 32) (row : CoupRow) (act : WinchAction) (s : State) : State :=
  let kN := if act = .heave then row.makeUpTarget else 0
  s.order row.port .winchOrder row.node (byte c.val :: byte act.code :: be16 kN)

/-- R117: a refused COUPLING_ORDER recorded in the coupling's record and in the last order refusal, with
COUPLING_REFUSED raised. -/
def State.refuseOrder (source : Nat) (o : CoupOrder) (c : Option (Fin 32)) (why : CoupReason) (s : State) : State :=
  let s1 := { s with couplings := { s.couplings with
    lastRefusal := some { source := source, order := o, index := c, reason := why } } }
  let s2 := match c with
    | none => s1
    | some c =>
      (s1.putCoup c { s1.couplings.recs.get c with
        refusal := some { source := source, order := o, reason := why } }).dueCoupling c
  s2.raise .couplingRefused (c.map (·.val))

/-- A FACE or ASSIST coupling bearing a boat, and RELEASING (R124). -/
def State.releasingUnder (s : State) (b : Boat) (c : Fin 32) : Bool :=
  match s.couplings.rows.get c with
  | some row => (row.kind == .face || row.kind == .assist) && row.bears == some b
      && (s.couplings.recs.get c).state == .releasing
  | none => false

/-- R124: a release abandoned because a lane of the borne boat has become active. -/
def State.abandonRelease (c : Fin 32) (s : State) : State :=
  match s.couplings.rows.get c with
  | none => s
  | some row =>
    let r := s.couplings.recs.get c
    let s1 := s.putCoup c { r with state := .slacked, opTimer := none, repeatTimer := none, releaser := none }
    (s1.winchOrder c row .hold).refuseOrder (r.releaser.getD 0) .release (some c) .propulsionActive

/-- R124: the releases a boat's lane abandons as it becomes active. No rule orders several of them; the model takes them in
ascending coupling index, so the highest stands in the last order refusal and the lowest is COUPLING_REFUSED's detail
(the model's choice: assumption log 59). -/
def State.abandonReleases (b : Boat) (s : State) : State :=
  forAll 32 (fun c s => if s.releasingUnder b c then s.abandonRelease c else s) s

/-- A loaded coupling bears the boat and is RELEASING (R58, R71). -/
def State.boatReleasing (s : State) (b : Boat) : Bool :=
  (indices 32).any (fun c => match s.couplings.rows.get c with
    | some row => row.bears == some b && (s.couplings.recs.get c).state == .releasing
    | none => false)

/-- The ASSIST boat is coupled when at least one loaded row bears ASSIST and every coupling bearing it is MADE_FAST
(R58). -/
def State.assistCoupled (s : State) : Bool :=
  let bears (c : Fin 32) : Bool := match s.couplings.rows.get c with
    | some row => row.bears == some .assist
    | none => false
  (indices 32).any bears && (indices 32).all (fun c => !bears c || s.madeFast c)

end Sys2Proof.Machine
end

