-- ==== Sys2Proof/Machine/Lanes.lean ====
section
/-!
DEFINITION. The lane sequencer's shared operations (chapter 4): the lane record, ceilings (R76, R80), governor orders
(R68), the lane state machine's transitions (R59 to R63), faults and stops (R55, R57), and leaving a step group (R90).
-/

namespace Sys2Proof.Machine

/-! ## Classes of lane states -/

/-- ENGAGING, AHEAD, ASTERN or DISENGAGING: an active lane (R123, R124, R161). -/
def LaneState.active : LaneState → Bool
  | .engaging | .ahead | .astern | .rampdown | .declutch => true
  | .unsynced | .stopped | .neutral | .fault => false

/-- NEUTRAL or active: a lane that is ordered (R68) and can be in step (R84). -/
def LaneState.ordered : LaneState → Bool
  | .neutral => true
  | st => st.active

/-- AHEAD, ASTERN or DISENGAGING RAMPDOWN: a lane that rides (R82) and whose setpoint the ceiling bounds (R64). -/
def LaneState.riding : LaneState → Bool
  | .ahead | .astern | .rampdown => true
  | _ => false

/-- UNSYNCED, STOPPED or FAULT: a lane whose row may be loaded (R48). -/
def LaneState.loadable : LaneState → Bool
  | .unsynced | .stopped | .fault => true
  | _ => false

/-- The state engaged in a direction. -/
def LaneState.engaged : Dir → LaneState
  | .astern => .astern
  | _ => .ahead

/-! ## The lane record -/

/-- A lane's record. -/
def State.lane (s : State) (l : Fin 4) : LaneRec := s.lanes.recs.get l

/-- A lane's record replaced. A change of the lane's state or phase makes its summary due (R74), is handed on to the
actuators it steers (R100), and, when the lane becomes active, abandons the releases of its boat (R124). -/
def State.putLane (l : Fin 4) (r : LaneRec) (s : State) : State :=
  let old := s.lane l
  let s1 := { s with lanes := { s.lanes with recs := s.lanes.recs.set l r } }
  if old.state = r.state then s1
  else
    let s2 := (s1.dueLane l).evaluateLane l
    if r.state.active && !old.state.active then
      match s.lanes.rows.get l with
      | some row => s2.abandonReleases row.boat
      | none => s2
    else s2

/-- A lane's record at its reset values, keeping what its engine last reported and its summary period (R50, R52). -/
def LaneRec.unsynced (r : LaneRec) : LaneRec :=
  { LaneRec.reset r.summaryAt with speed := r.speed, alarm := r.alarm }

/-! ## Ceilings (R75, R76, R80) -/

/-- A lane's maximum for a direction. -/
def LaneRow.maxFor (row : LaneRow) : Dir → Nat
  | .astern => row.maxAstern
  | _ => row.maxAhead

/-- R80: the value of a TENSION entry holding derate `d`, for a direction. -/
def tensionValue (row : LaneRow) (d : Nat) (x : Dir) : Nat := row.idle + (row.maxFor x - row.idle) * d / 1000

/-- The lesser of a value and an optional limit. -/
def minOpt (v : Nat) : Option Nat → Nat
  | none => v
  | some w => min v w

/-- R76: a lane's ceiling for a direction. -/
def ceilingFor (row : LaneRow) (c : Ceilings) (x : Dir) : Nat :=
  minOpt (minOpt (minOpt (minOpt (row.maxFor x) c.mgmtCap) (c.tension.map (fun d => tensionValue row d x)))
    c.fuelReserve) c.commandLoss

/-- The ceiling direction: the commanded gear, and AHEAD when that is NEUTRAL (section 4.2). -/
def LaneRec.ceilingDir (r : LaneRec) : Dir := if r.gear = .astern then .astern else .ahead

/-- The effective ceiling of a loaded lane (R76). -/
def State.effCeiling (s : State) (l : Fin 4) (row : LaneRow) : Nat :=
  ceilingFor row (s.lanes.ceils.get l) (s.lane l).ceilingDir

/-! ## Governor orders (R68) -/

/-- A GOVERNOR_ORDER with a gear and a setpoint (11.5). -/
def State.governorOrder (l : Fin 4) (row : LaneRow) (gear : Dir) (setpoint : Nat) (s : State) : State :=
  s.order row.port .governorOrder row.node (byte gear.code :: be16 setpoint ++ [byte l.val])

/-- R68: the lane's order queued, carrying its commanded gear and applied setpoint; its refresh timer restarts. -/
def State.orderLane (l : Fin 4) (row : LaneRow) (s : State) : State :=
  let r := s.lane l
  if r.state.ordered then
    (s.putLane l { r with refreshTimer := some (s.now + row.refresh) }).governorOrder l row r.gear r.setpoint
  else s

/-! ## Leaving a step group (R67, R90) -/

/-- The in-step set of a group, in ascending lane index (R82). -/
def State.members (s : State) (g : Fin 2) : List (Fin 4) :=
  (indices 4).filter (fun l => (s.lane l).inStep && (match s.lanes.rows.get l with
    | some row => row.home == some g
    | none => false))

/-- A group's record replaced. -/
def State.putGroup (g : Fin 2) (r : GroupRec) (s : State) : State :=
  { s with groups := { s.groups with recs := s.groups.recs.set g r } }

/-- R90: a group whose in-step set has become empty stops its ramp and hold timers; its point and target are kept. -/
def State.settleGroup (g : Fin 2) (s : State) : State :=
  if (s.members g).isEmpty then
    s.putGroup g { s.groups.recs.get g with rampTimer := none, holdStart := none }
  else s

/-- R90: a lane in step leaves its group, keeping its applied setpoint and target. -/
def State.leaveGroup (l : Fin 4) (s : State) : State :=
  let r := s.lane l
  if r.inStep then
    let s1 := s.putLane l { r with inStep := false }
    match s.lanes.rows.get l with
    | some row => match row.home with
      | some g => s1.settleGroup g
      | none => s1
    | none => s1
  else s

/-! ## Faults, stops and UNSYNCED (R50, R55, R57) -/

/-- R55: entry to FAULT. -/
def State.faultLane (l : Fin 4) (row : LaneRow) (why : LaneCause) (s : State) : State :=
  let s1 := if why = .engageTimeout ∨ why = .gearMismatch then s.governorOrder l row .neutral row.idle else s
  let s2 := s1.leaveGroup l
  let r := s2.lane l
  (s2.putLane l { r with
      state := .fault, cause := some why, gear := .neutral, targetDir := .neutral, targetSpeed := 0, setpoint := 0,
      pending := none, kickMark := none, kickTimer := none, crash := false, rampTimer := none, clutchTimer := none,
      neutralTimer := none, dwellTimer := none, statusTimer := none,
      refreshTimer := none }).raise .laneFault (some l.val)

/-- R57: entry to STOPPED; the status timer runs from the report's arrival. -/
def State.stopLane (l : Fin 4) (row : LaneRow) (arrival : Nat) (s : State) : State :=
  let s1 := s.leaveGroup l
  s1.putLane l { (s1.lane l).unsynced with state := .stopped, statusTimer := some (arrival + row.statusTimeout) }

/-- R50: a lane put in UNSYNCED at its reset values (entry to LAID_UP or PASS_THROUGH). -/
def State.unsyncLane (l : Fin 4) (s : State) : State :=
  let s1 := s.leaveGroup l
  s1.putLane l (s1.lane l).unsynced

/-! ## The state machine (R59 to R63) -/

/-- R60: entry to ENGAGING toward a direction. -/
def State.engage (l : Fin 4) (row : LaneRow) (d : Dir) (kick : Option Nat) (s : State) : State :=
  (s.putLane l { s.lane l with
    state := .engaging, gear := d, pending := none, setpoint := row.idle, kickMark := kick,
    clutchTimer := some (s.now + row.clutchTimeout), dwellTimer := none }).orderLane l row

/-- R61, R62: entry to DISENGAGING DECLUTCH. -/
def State.declutch (l : Fin 4) (row : LaneRow) (s : State) : State :=
  (s.putLane l { s.lane l with
    state := .declutch, gear := .neutral, setpoint := row.idle, kickMark := none, kickTimer := none,
    clutchTimer := none, rampTimer := none, neutralTimer := some (s.now + row.neutralTimeout) }).orderLane l row

/-- R62: a lane in RAMPDOWN whose setpoint equals its idle speed goes to DECLUTCH. -/
def State.settleRampdown (l : Fin 4) (row : LaneRow) (s : State) : State :=
  if (s.lane l).state = .rampdown ∧ (s.lane l).setpoint = row.idle then s.declutch l row else s

/-- A lane's applied setpoint written by a ramp step, a ceiling cut or the group point: each change queues an order
(R65, R66, R67), and in RAMPDOWN the idle speed brings DECLUTCH with its neutral order (R62). -/
def State.writeSetpoint (l : Fin 4) (row : LaneRow) (v : Nat) (s : State) : State :=
  let r := s.lane l
  if v = r.setpoint then s
  else
    let s1 := s.putLane l { r with setpoint := v }
    if r.state = .rampdown ∧ v = row.idle then s1.declutch l row else s1.orderLane l row

/-- The dwell of a lane (R59). -/
def LaneRec.dwell (r : LaneRec) (row : LaneRow) : Nat := if r.crash then row.crashDwell else row.reversalDwell

/-- R59: when an engagement toward a direction may begin: at once toward the last engaged direction, otherwise the dwell
after the neutral-since time. -/
def LaneRec.mayEngageAt (r : LaneRec) (row : LaneRow) (d : Dir) (now : Nat) : Nat :=
  if r.lastEngaged = some d then 0 else r.neutralSince.getD now + r.dwell row

/-- R60: a change toward a direction in NEUTRAL: the lane engages, or the engagement becomes pending. -/
def State.engageOrWait (l : Fin 4) (row : LaneRow) (d : Dir) (speed : Nat) (kick : Option Nat) (s : State) : State :=
  let r := s.lane l
  let due := r.mayEngageAt row d s.now
  if due ≤ s.now then s.engage l row d kick
  else s.putLane l { r with pending := some { dir := d, speed := speed, kick := kick }, dwellTimer := some due }

/-- R60 to R63 (table of section 4.6): a change of a lane's target, already normalised, with the kick duration if a kick
makes it. The target after a change is the change's. -/
def State.applyChange (l : Fin 4) (row : LaneRow) (d : Dir) (speed : Nat) (kick : Option Nat) (s : State) : State :=
  let r := { s.lane l with targetDir := d, targetSpeed := speed }
  let waits : Option Pending := if d = .neutral then none else some { dir := d, speed := speed, kick := none }
  match r.state with
  | .neutral =>
    if d = .neutral then s.putLane l { r with pending := none, dwellTimer := none }
    else (s.putLane l { r with pending := none, dwellTimer := none }).engageOrWait l row d speed kick
  | .engaging =>
    if d = r.gear then s.putLane l { r with kickMark := kick }
    else (s.putLane l { r with lastEngaged := some r.gear, pending := waits }).declutch l row
  | .ahead | .astern =>
    if d = r.gear then s.putLane l { r with kickTimer := kick.map (fun k => s.now + 1000 * k) }
    else (s.putLane l { r with state := .rampdown, pending := waits, kickTimer := none }).settleRampdown l row
  | .rampdown =>
    if d = r.gear then s.putLane l { r with state := .engaged r.gear, pending := none }
    else s.putLane l { r with pending := waits }
  | .declutch => s.putLane l { r with pending := waits }
  | .unsynced | .stopped | .fault => s

/-- R60, R72: the crash flag of a lane cleared; a pending engagement's dwell returns to the reversal dwell, and begins at
once where that has passed. -/
def State.clearCrash (l : Fin 4) (row : LaneRow) (s : State) : State :=
  let r := s.lane l
  if r.crash then
    let r' := { r with crash := false }
    match r.state, r.pending with
    | .neutral, some p => (s.putLane l r').engageOrWait l row p.dir p.speed p.kick
    | _, _ => s.putLane l r'
  else s

/-- The kick of a lane in progress discarded: its timer, or the marking of an engaging or pending kick (R70). -/
def LaneRec.dropKick (r : LaneRec) : LaneRec :=
  { r with kickTimer := none, kickMark := none, pending := r.pending.map (fun p => { p with kick := none }) }

end Sys2Proof.Machine
end

