-- ==== Sys2Proof/Machine/Groups.lean ====
section
/-!
DEFINITION. The step-group ramp (chapter 5) and what a change of a ceiling does to setpoints and group points (R66, R76,
R89).
-/

namespace Sys2Proof.Machine

/-! ## Views of a group (R82) -/

/-- The phase of a group. -/
inductive Phase where
  | empty | gathering | running
deriving DecidableEq, Repr

/-- R82: EMPTY while the in-step set is empty; RUNNING when the target is AHEAD or ASTERN and every member is engaged in
that direction; GATHERING otherwise. -/
def State.phase (s : State) (g : Fin 2) : Phase :=
  let ms := s.members g
  let d := (s.groups.recs.get g).targetDir
  if ms.isEmpty then .empty
  else if d ≠ .neutral ∧ ms.all (fun l => (s.lane l).state == .engaged d) then .running
  else .gathering

/-- The members that ride the group point (R82). -/
def State.riders (s : State) (g : Fin 2) : List (Fin 4) := (s.members g).filter (fun l => (s.lane l).state.riding)

/-- The loaded home members of a group (R81). -/
def State.homeMembers (s : State) (g : Fin 2) : List (Fin 4) :=
  (indices 4).filter (fun l => match s.lanes.rows.get l with
    | some row => row.home == some g
    | none => false)

/-- A value read of each listed lane's row. -/
def State.rowValues (s : State) (ls : List (Fin 4)) (f : Fin 4 → LaneRow → Nat) : List Nat :=
  ls.filterMap (fun l => (s.lanes.rows.get l).map (f l))

/-- The group's idle speed, common to its home members (R81). -/
def State.groupIdle (s : State) (g : Fin 2) : Nat := ((s.rowValues (s.homeMembers g) (fun _ row => row.idle)).head?).getD 0

/-- The least effective ceiling among the riding members; not defined while none ride (R82). -/
def State.leastCeiling (s : State) (g : Fin 2) : Option Nat := leastOf (s.rowValues (s.riders g) s.effCeiling)

/-- The least ramp-up step among the members (R82). -/
def State.leastUp (s : State) (g : Fin 2) : Nat :=
  (leastOf (s.rowValues (s.members g) (fun _ row => row.rampUp))).getD 0

/-- The least ramp-down step among the members (R82). -/
def State.leastDown (s : State) (g : Fin 2) : Nat :=
  (leastOf (s.rowValues (s.members g) (fun _ row => row.rampDown))).getD 0

/-- The lag of a member: the group point less its last reported speed; with no speed reported, the point (R86). -/
def State.lag (s : State) (g : Fin 2) (l : Fin 4) : Int :=
  ((s.groups.recs.get g).point : Int) - (((s.lane l).speed.getD 0 : Nat) : Int)

/-! ## Writing the group point (R67, R86, R88, R89) -/

/-- The applied setpoint of each listed lane written, in ascending index (the model's choice: assumption log 57). -/
def State.writeSetpoints (ls : List (Fin 4)) (v : Nat) (s : State) : State :=
  forEach ls (fun l s => match s.lanes.rows.get l with
    | some row => s.writeSetpoint l row v
    | none => s) s

/-- The group point moved; each change is written to every riding member. -/
def State.movePoint (g : Fin 2) (v : Nat) (s : State) : State :=
  let r := s.groups.recs.get g
  if v = r.point then s
  else (s.putGroup g { r with point := v }).writeSetpoints (s.riders g) v

/-- R89: the group point cut to the least effective ceiling of its riding members, when that has fallen below it. -/
def State.cutPoint (g : Fin 2) (s : State) : State :=
  match s.leastCeiling g with
  | some c => if c < (s.groups.recs.get g).point then s.movePoint g c else s
  | none => s

/-- R66 and R89: a lane's effective ceiling recomputed: a fall below the setpoint of a riding lane cuts it at once, the
group point with it when the lane is in step. -/
def State.applyCeiling (l : Fin 4) (s : State) : State :=
  match s.lanes.rows.get l with
  | none => s
  | some row =>
    if (s.lane l).state.riding then
      let s1 := if (s.lane l).inStep then
          match row.home with
          | some g => s.cutPoint g
          | none => s
        else s
      let c := s1.effCeiling l row
      if (s1.lane l).state.riding ∧ c < (s1.lane l).setpoint then s1.writeSetpoint l row c else s1
    else s

/-- A lane's ceiling record replaced, with its effective ceiling recomputed (R76). -/
def State.putCeilings (l : Fin 4) (c : Ceilings) (s : State) : State :=
  ({ s with lanes := { s.lanes with ceils := s.lanes.ceils.set l c } }).applyCeiling l

/-- An entry posted or removed on every loaded lane that meets a test (R75: an owner posts nothing for a lane whose row is
empty). No rule orders the lanes; the model posts in ascending lane index, and each posting cuts the lane and its group
point before the next is made (R80; the model's choice: assumption log 57). -/
def State.postCeilings (on : LaneRow → Bool) (f : LaneRow → Ceilings → Ceilings) (s : State) : State :=
  forAll 4 (fun l s => match s.lanes.rows.get l with
    | some row => if on row then s.putCeilings l (f row (s.lanes.ceils.get l)) else s
    | none => s) s

/-! ## Group demands (R83 to R85) -/

/-- A speed normalised for a lane and direction: raised to the idle speed, lowered to the maximum (R58). -/
def LaneRow.bound (row : LaneRow) (d : Dir) (v : Nat) : Nat := clampNat row.idle (row.maxFor d) v

/-- R58: a demand's target for a lane: NEUTRAL, 0 for direction NEUTRAL, and for speed 0 but in a KICK_DEMAND; otherwise
its direction at the bounded speed. -/
def LaneRow.normal (row : LaneRow) (isKick : Bool) (d : Dir) (v : Nat) : Dir × Nat :=
  if d = .neutral ∨ (v = 0 ∧ isKick = false) then (.neutral, 0) else (d, row.bound d v)

/-- R84: a home member is eligible for a group target. -/
def State.eligible (s : State) (g : Fin 2) (d : Dir) (l : Fin 4) : Bool :=
  match s.lanes.rows.get l with
  | none => false
  | some row =>
    row.home == some g && (s.lane l).state.ordered
    && (d == .neutral || (!s.boatReleasing row.boat && (row.boat == .main || s.assistCoupled)))

/-- R84: an eligible lane joins: in step, its kick discarded and its crash flag clear, it takes the group target as a
change or a refresh. -/
def State.joinGroup (d : Dir) (v : Nat) (l : Fin 4) (s : State) : State :=
  match s.lanes.rows.get l with
  | none => s
  | some row =>
    let s1 := s.putLane l { (s.lane l).dropKick with inStep := true }
    let (d', v') := if d = .neutral then (.neutral, 0) else (d, row.bound d v)
    let r := s1.lane l
    if r.targetDir = d' ∧ r.targetSpeed = v' then s1.clearCrash l row
    else (s1.putLane l { r with crash := false }).applyChange l row d' v' none

/-- R85: the group point and timers as a change leaves them. -/
def State.settlePoint (g : Fin 2) (s : State) : State :=
  let r := s.groups.recs.get g
  if (s.members g).isEmpty then s.putGroup g { r with holdStart := none, rampTimer := none }
  else
    let point := (leastOf ((s.riders g).map (fun l => (s.lane l).setpoint))).getD (s.groupIdle g)
    let timer := match r.rampTimer with
      | some e => e
      | none => s.now + 100
    (s.putGroup g { r with point := point, holdStart := none, rampTimer := some timer }).writeSetpoints (s.riders g) point

/-- R83 to R85: a change of the group target. The members that are not eligible leave before the others join, so a change
that replaces every member empties the set and starts the ramp timer afresh (the model's choice: assumption log 51). -/
def State.changeGroup (g : Fin 2) (d : Dir) (v : Nat) (s : State) : State :=
  let s1 := s.putGroup g { s.groups.recs.get g with targetDir := d, targetSpeed := v, suspended := false }
  let s2 := forEach ((s1.members g).filter (fun l => !s.eligible g d l)) State.leaveGroup s1
  let s3 := forEach ((indices 4).filter (s.eligible g d)) (State.joinGroup d v) s2
  s3.settlePoint g

/-- R83: a GROUP_DEMAND that has passed its tests. -/
def State.groupTarget (g : Fin 2) (d : Dir) (v : Nat) (s : State) : State :=
  let (d', v') := if d = .neutral ∨ v = 0 then (Dir.neutral, 0) else (d, max v (s.groupIdle g))
  let r := s.groups.recs.get g
  if r.targetDir = d' ∧ r.targetSpeed = v' then
    if r.suspended then s.putGroup g { r with ignored := bump r.ignored } else s
  else s.changeGroup g d' v'

/-- R91: a group suspended by a crash: every lane still in step leaves. -/
def State.suspendGroup (g : Fin 2) (s : State) : State :=
  let s1 := s.putGroup g { s.groups.recs.get g with suspended := true }
  forEach (s1.members g) State.leaveGroup s1

/-! ## Expiries (R86 to R88) -/

/-- A value stepped toward a goal, upward by at most `up`, downward by at most `down`. -/
def stepToward (up down goal v : Nat) : Nat :=
  if v < goal then min (v + up) goal else if goal < v then max (v - down) goal else v

/-- R86, R87: an expiry of the group ramp timer in RUNNING. -/
def State.runGroup (g : Fin 2) (row : GroupRow) (s : State) : State :=
  let r := s.groups.recs.get g
  let goal := minOpt r.targetSpeed (s.leastCeiling g)
  let late := (s.members g).any (fun l => decide ((row.tolerance : Int) < s.lag g l))
  if r.point < goal ∧ late then
    s.putGroup g { r with holdStart := some (r.holdStart.getD s.now) }
  else
    (s.putGroup g { r with holdStart := none }).movePoint g (stepToward (s.leastUp g) (s.leastDown g) goal r.point)

/-- R88: an expiry of the group ramp timer in GATHERING: the point falls toward the group's idle speed and stays there. -/
def State.gatherGroup (g : Fin 2) (s : State) : State :=
  let r := s.groups.recs.get g
  let s1 := s.putGroup g { r with holdStart := none }
  if s.groupIdle g < r.point then s1.movePoint g (max (r.point - s.leastDown g) (s.groupIdle g)) else s1

/-- The group ramp timer expires (R86 to R88); it expires every 100 ms from then on. The step tolerance of the row is in
force from this expiry on (R81). -/
def State.groupRamp (g : Fin 2) (s : State) : State :=
  let r := s.groups.recs.get g
  match s.groups.rows.get g, r.rampTimer with
  | some row, some e =>
    if e ≤ s.now then
      let s1 := s.putGroup g { r with rampTimer := some (e + 100), tolerance := row.tolerance }
      match s.phase g with
      | .empty => s
      | .running => s1.runGroup g row
      | .gathering => s1.gatherGroup g
    else s
  | _, _ => s

/-- R87: the members that still lag leave, in ascending index (the model's choice: assumption log 57), with OUT_OF_STEP
raised for each, and the hold timer stops. A tolerance loaded since the last ramp expiry is not in force yet (R81). -/
def State.expireHold (g : Fin 2) (s : State) : State :=
  let r := s.groups.recs.get g
  let late := (s.members g).filter (fun l => decide ((r.tolerance : Int) < s.lag g l))
  let s1 := s.putGroup g { r with holdStart := none }
  forEach late (fun l s => (s.leaveGroup l).raise .outOfStep (some l.val)) s1

/-- The hold timer of a group expires: its start plus the row's hold limit (R81, R87). -/
def State.groupHold (g : Fin 2) (s : State) : State :=
  match s.groups.rows.get g with
  | some row =>
    if isDue ((s.groups.recs.get g).holdStart.map (· + row.holdLimit)) s.now then s.expireHold g else s
  | none => s

/-- R82: a group record at its reset values (entry to LAID_UP or PASS_THROUGH). -/
def State.resetGroup (g : Fin 2) (s : State) : State := s.putGroup g GroupRec.reset

end Sys2Proof.Machine
end

