-- ==== Sys2Proof/Machine/Engine.lean ====
section
/-!
DEFINITION. ENGINE_STATUS (R51 to R57) and the lane timers: status, clutch confirm, neutral confirm, dwell, kick, ramp and
refresh (R57, R60, R61, R63, R65, R68, R70).
-/

namespace Sys2Proof.Machine

/-! ## Adoption and confirmation -/

/-- The lane's status timer started or restarted at a frame's arrival (R51; assumption log 6). -/
def LaneRec.heard (r : LaneRec) (row : LaneRow) (arrival : Nat) : LaneRec :=
  { r with statusTimer := some (arrival + row.statusTimeout) }

/-- R52, R53: the record of a NEUTRAL adoption, with the neutral order it queues (R68). -/
def State.adoptNeutral (l : Fin 4) (row : LaneRow) (arrival : Nat) (s : State) : State :=
  let r := (s.lane l).unsynced
  (s.putLane l { r.heard row arrival with
      state := .neutral, setpoint := row.idle, neutralSince := some arrival }).orderLane l row

/-- R52: adoption engaged in a direction at the reported speed, held within idle speed and ceiling. -/
def State.adoptEngaged (l : Fin 4) (row : LaneRow) (d : Dir) (speed arrival : Nat) (s : State) : State :=
  let v := clampNat row.idle (ceilingFor row (s.lanes.ceils.get l) d) speed
  let r := (s.lane l).unsynced
  (s.putLane l { r.heard row arrival with
      state := .engaged d, gear := d, lastEngaged := some d, setpoint := v, targetDir := d, targetSpeed := v,
      rampTimer := some (s.now + 100) }).orderLane l row

/-- R52: a lane in UNSYNCED adopted from a report, by the first line that applies. -/
def State.adoptLane (l : Fin 4) (row : LaneRow) (rep : EngineReport) (arrival : Nat) (s : State) : State :=
  if rep.localMode then s
  else if !rep.running then s.stopLane l row arrival
  else match rep.gear with
    | none => s
    | some .neutral => s.adoptNeutral l row arrival
    | some .ahead => s.adoptEngaged l row .ahead rep.speed arrival
    | some .astern => s.adoptEngaged l row .astern rep.speed arrival

/-- R53, R56: a lane put in UNSYNCED and adopted from the same frame. -/
def State.readoptLane (l : Fin 4) (row : LaneRow) (rep : EngineReport) (arrival : Nat) (s : State) : State :=
  (s.putLane l (s.lane l).unsynced).adoptLane l row rep arrival

/-- A lane in step that has become engaged rides its group's point from then on (R67): the least effective ceiling, which
now counts it, cuts the point where it lies below, and the lane's setpoint is the point (R88, R89; assumption log 16). -/
def State.ridePoint (l : Fin 4) (row : LaneRow) (s : State) : State :=
  if (s.lane l).inStep then
    match row.home with
    | some g => (s.cutPoint g).writeSetpoint l row ((s.cutPoint g).groups.recs.get g).point
    | none => s
  else s

/-- R54: an engagement confirmed in direction D. A lane out of step stays at its idle speed; one in step is written its
group's point. -/
def State.confirmEngaged (l : Fin 4) (row : LaneRow) (d : Dir) (s : State) : State :=
  let r := s.lane l
  (s.putLane l { r with
      state := .engaged d, gear := d, lastEngaged := some d, clutchTimer := none, rampTimer := some (s.now + 100),
      kickTimer := r.kickMark.map (fun k => s.now + 1000 * k), kickMark := none,
      crash := r.crash && decide (d ≠ .astern) }).ridePoint l row

/-- R63: a disengagement confirmed; a pending engagement is then taken as a change against the new neutral-since time. -/
def State.confirmNeutral (l : Fin 4) (row : LaneRow) (arrival : Nat) (s : State) : State :=
  let r := s.lane l
  let s1 := s.putLane l { r with state := .neutral, neutralTimer := none, neutralSince := some arrival, pending := none }
  match r.pending with
  | none => s1
  | some p => s1.engageOrWait l row p.dir p.speed p.kick

/-- R54: the reported gear against the state of a lane in NEUTRAL, ENGAGING, AHEAD, ASTERN or DISENGAGING. -/
def State.gearReport (l : Fin 4) (row : LaneRow) (gear : Option Dir) (arrival : Nat) (s : State) : State :=
  let r := s.lane l
  match r.state, gear with
  | .neutral, some .neutral => s
  | .neutral, none => s
  | .neutral, some _ => s.faultLane l row .gearMismatch
  | .engaging, none => s
  | .engaging, some .neutral => s
  | .engaging, some d => if d = r.gear then s.confirmEngaged l row d else s.faultLane l row .gearMismatch
  | .declutch, none => s
  | .declutch, some .neutral => s.confirmNeutral l row arrival
  | .declutch, some d => if r.lastEngaged = some d then s else s.faultLane l row .gearMismatch
  | .ahead, g => if g = some r.gear then s else s.faultLane l row .gearMismatch
  | .astern, g => if g = some r.gear then s else s.faultLane l row .gearMismatch
  | .rampdown, g => if g = some r.gear then s else s.faultLane l row .gearMismatch
  | .unsynced, _ => s
  | .stopped, _ => s
  | .fault, _ => s

/-- R56: whether a REMOTE, running report clears a fault cause. -/
def LaneCause.clearedBy (gear : Option Dir) : LaneCause → Bool
  | .statusLost | .localControl => true
  | .engageTimeout | .disengageTimeout | .gearMismatch => gear.isSome

/-- R53: a report taken in COORDINATING by a lane in a state other than UNSYNCED. -/
def State.engineActs (l : Fin 4) (row : LaneRow) (rep : EngineReport) (arrival : Nat) (s : State) : State :=
  let r := s.lane l
  if rep.localMode then
    if r.state = .fault then s.putLane l { r with cause := some .localControl }
    else s.faultLane l row .localControl
  else if !rep.running then
    if r.state = .stopped then s else s.stopLane l row arrival
  else match r.state with
    | .fault =>
      if (r.cause.map (LaneCause.clearedBy rep.gear)).getD true then s.readoptLane l row rep arrival else s
    | .stopped =>
      if rep.gear = some .neutral then s.adoptNeutral l row arrival else s.readoptLane l row rep arrival
    | .unsynced | .neutral | .engaging | .ahead | .astern | .rampdown | .declutch =>
      s.gearReport l row rep.gear arrival

/-- The lane whose loaded row names an engine node. -/
def State.laneOf (s : State) (node : Nat) : Option (Fin 4) :=
  (indices 4).find? (fun l => match s.lanes.rows.get l with
    | some row => row.node == node
    | none => false)

/-- ENGINE_STATUS taken (R51). -/
def State.takeEngine (q : Received) (s : State) : State :=
  match s.laneOf q.frame.id.source.toNat with
  | none => s
  | some l =>
    match s.lanes.rows.get l with
    | none => s
    | some row =>
      let rep := engineReport q.frame.data
      let old := s.lane l
      let r := { old with speed := some rep.speed, alarm := some rep.alarm }
      let told (s : State) : State := if old.alarm = some rep.alarm then s else s.dueLane l
      if s.mgmt.mode = .coordinating then
        match r.state with
        | .unsynced => (told (s.putLane l r)).adoptLane l row rep q.arrival
        | .fault => (told (s.putLane l r)).engineActs l row rep q.arrival
        | .stopped | .neutral | .engaging | .ahead | .astern | .rampdown | .declutch =>
          (told (s.putLane l (r.heard row q.arrival))).engineActs l row rep q.arrival
      else told (s.putLane l r)

/-! ## Timers -/

/-- `f` on a lane whose row is loaded. -/
def State.withLane (l : Fin 4) (f : LaneRow → State) (s : State) : State :=
  match s.lanes.rows.get l with
  | some row => f row
  | none => s

/-- R57: the status timer of a lane expires. -/
def State.laneSilent (l : Fin 4) (s : State) : State :=
  s.withLane l fun row =>
    let r := s.lane l
    if isDue r.statusTimer s.now ∧ r.state ≠ .unsynced ∧ r.state ≠ .fault then s.faultLane l row .statusLost else s

/-- R61: the clutch confirm timer of a lane expires. -/
def State.clutchExpires (l : Fin 4) (s : State) : State :=
  s.withLane l fun row =>
    let r := s.lane l
    if isDue r.clutchTimer s.now ∧ r.state = .engaging then s.faultLane l row .engageTimeout else s

/-- R63: the neutral confirm timer of a lane expires. -/
def State.neutralExpires (l : Fin 4) (s : State) : State :=
  s.withLane l fun row =>
    let r := s.lane l
    if isDue r.neutralTimer s.now ∧ r.state = .declutch then s.faultLane l row .disengageTimeout else s

/-- R60: the dwell timer of a lane expires with an engagement pending. -/
def State.dwellExpires (l : Fin 4) (s : State) : State :=
  s.withLane l fun row =>
    let r := s.lane l
    match r.pending with
    | some p =>
      if isDue r.dwellTimer s.now ∧ r.state = .neutral then s.engage l row p.dir p.kick else s
    | none => s

/-- R70: the kick timer of a lane expires. -/
def State.kickExpires (l : Fin 4) (s : State) : State :=
  s.withLane l fun row =>
    let r := s.lane l
    if isDue r.kickTimer s.now ∧ (r.state = .ahead ∨ r.state = .astern) then
      s.applyChange l row .neutral 0 none
    else s

/-- R65: the goal of a lane's ramp. -/
def State.rampGoal (s : State) (l : Fin 4) (row : LaneRow) : Nat :=
  if (s.lane l).state = .rampdown then row.idle else min (s.lane l).targetSpeed (s.effCeiling l row)

/-- R65: the ramp timer of a lane expires; it expires every 100 ms from then on. A lane in step takes no step of its own
(R67). -/
def State.rampExpires (l : Fin 4) (s : State) : State :=
  s.withLane l fun row =>
    let r := s.lane l
    match r.rampTimer with
    | some e =>
      if e ≤ s.now ∧ r.state.riding then
        let s1 := s.putLane l { r with rampTimer := some (e + 100) }
        if r.inStep then s1
        else
          let down := if r.crash then row.crashRampDown else row.rampDown
          s1.writeSetpoint l row (stepToward row.rampUp down (s.rampGoal l row) r.setpoint)
      else s
    | none => s

/-- R68: the refresh period of a lane has passed since its last order. -/
def State.laneRefreshes (l : Fin 4) (s : State) : State :=
  s.withLane l fun row => if isDue (s.lane l).refreshTimer s.now then s.orderLane l row else s

end Sys2Proof.Machine
end

