-- ==== Sys2Proof/Machine/Demands.lean ====
section
/-!
DEFINITION. Propulsion demands as the lane sequencer and the step-group ramp take them (R58, R69 to R71, R83), after demand
intake has accepted them, and the toward-neutral orders of R73 and R123.
-/

namespace Sys2Proof.Machine

/-- R35: a refusal written in the last refusal record, with DEMAND_REFUSED raised. -/
def State.refuseDemand (source : Nat) (k : MsgKind) (why : Reason) (o : Object) (s : State) : State :=
  ({ s with intake := { s.intake with
      lastRefusal := some { source := source, kind := k, reason := why, object := o } } }).raise
    .demandRefused (some source)

/-- R69: the states in which a kick toward a direction is accepted. -/
def LaneRec.kickAccepted (r : LaneRec) (d : Dir) : Bool :=
  match r.state with
  | .neutral => true
  | .engaging | .ahead | .astern => r.gear == d
  | .unsynced | .stopped | .rampdown | .declutch | .fault => false

/-- R58: the reason a lane demand with a normalised target is refused, at the first test that applies. -/
def State.laneRefusal (s : State) (l : Fin 4) (row : LaneRow) (d : Dir) (isKick : Bool) : Option Reason :=
  let r := s.lane l
  if r.state = .unsynced ∨ r.state = .fault then some .laneFault
  else if r.state = .stopped then some .notRunning
  else if s.boatReleasing row.boat ∧ d ≠ .neutral then some .releaseInProgress
  else if row.boat = .assist ∧ s.assistCoupled = false ∧ d ≠ .neutral then some .uncoupled
  else if isKick ∧ d ≠ .neutral ∧ r.kickAccepted d = false then some .kickReversal
  else none

/-- A kick of the lane is in progress: pending, engaging or timed (R70). -/
def LaneRec.kicking (r : LaneRec) : Bool :=
  r.kickTimer.isSome || r.kickMark.isSome || (match r.pending with | some p => p.kick.isSome | none => false)

/-- A demand that has passed the tests of R58, compared with the lane's target and applied: first the lane leaves its
group (R90), then a refresh changes nothing but a kick that a SPEED_DEMAND takes over (R70), and a change clears the
crash flag (R72). `kick` is the duration of a KICK_DEMAND whose target is not NEUTRAL. -/
def State.demandLane (l : Fin 4) (row : LaneRow) (d : Dir) (v : Nat) (kick : Option Nat) (s : State) : State :=
  let s1 := if (s.lane l).inStep then (s.leaveGroup l).raise .leftGroup (some l.val) else s
  let r := s1.lane l
  if r.targetDir = d ∧ r.targetSpeed = v then
    if kick.isNone ∧ r.kicking then s1.putLane l r.dropKick else s1
  else (s1.putLane l { r with crash := false }).applyChange l row d v kick

/-- A demand for one lane tested and applied (R58, R69). `kick` is the duration a KICK_DEMAND carries; no other demand has
one. -/
def State.laneDemand (k : MsgKind) (source : Nat) (index : Nat) (d : Dir) (v : Nat) (kick : Option Nat) (s : State) :
    State :=
  match idx 4 index with
  | none => s.refuseDemand source k .laneFault .none
  | some l =>
    match s.lanes.rows.get l with
    | none => s.refuseDemand source k .laneFault (.lane l)
    | some row =>
      let (d', v') := row.normal kick.isSome d v
      let kick' := if d' = .neutral then none else kick
      match s.laneRefusal l row d' kick'.isSome with
      | some why => s.refuseDemand source k why (.lane l)
      | none => s.demandLane l row d' v' kick'

/-- R58: SPEED_DEMAND passed on. -/
def State.speedDemand (q : Received) (s : State) : State :=
  let m := q.frame.data
  s.laneDemand .speedDemand q.frame.id.source.toNat (u8 m 0) (demandDir m) (u16 m 2) none

/-- R58: NEUTRAL_DEMAND passed on: target NEUTRAL, 0. -/
def State.neutralDemand (q : Received) (s : State) : State :=
  s.laneDemand .neutralDemand q.frame.id.source.toNat (u8 q.frame.data 0) .neutral 0 none

/-- R69: KICK_DEMAND passed on, its duration held within 1 to 30 s. One of direction NEUTRAL is taken as a
NEUTRAL_DEMAND; refused, it stands in the last refusal record (R35) as the KICK_DEMAND that came (the model's choice:
assumption log 56). -/
def State.kickDemand (q : Received) (s : State) : State :=
  let m := q.frame.data
  s.laneDemand .kickDemand q.frame.id.source.toNat (u8 m 0) (demandDir m) (u16 m 2) (some (clampNat 1 30 (u8 m 4)))

/-- R71: the lanes a CRASH_ASTERN applies to. -/
def State.crashApplies (s : State) (l : Fin 4) : Bool :=
  match s.lanes.rows.get l with
  | none => false
  | some row => (s.lane l).state.ordered && (row.boat == .main || s.assistCoupled) && !s.boatReleasing row.boat

/-- R71: one lane crashed: a refresh when its target is already ASTERN at the crash astern speed, otherwise a change made
under the crash flag, which clears at once on a lane that is then ASTERN. A kick in progress is discarded
(assumption log 15). -/
def State.crashLane (l : Fin 4) (s : State) : State :=
  match s.lanes.rows.get l with
  | none => s
  | some row =>
    let r := (s.lane l).dropKick
    if r.targetDir = .astern ∧ r.targetSpeed = row.crashSpeed then s.putLane l r
    else
      let s1 := (s.putLane l { r with crash := true }).applyChange l row .astern row.crashSpeed none
      if (s1.lane l).state = .astern then s1.putLane l { s1.lane l with crash := false } else s1

/-- R71, R91: CRASH_ASTERN passed on: both groups are suspended, then each lane it applies to is crashed, in ascending
index (the model's choice: assumption log 57). -/
def State.crashAstern (s : State) : State :=
  let ls := (indices 4).filter s.crashApplies
  forEach ls State.crashLane ((s.suspendGroup 0).suspendGroup 1)

/-- R83: GROUP_DEMAND passed on. -/
def State.groupDemand (q : Received) (s : State) : State :=
  let m := q.frame.data
  let source := q.frame.id.source.toNat
  match idx 2 (u8 m 0) with
  | none => s.refuseDemand source .groupDemand .laneFault .none
  | some g =>
    if (s.groups.rows.get g).isNone ∨ (s.homeMembers g).isEmpty then
      s.refuseDemand source .groupDemand .laneFault (.group g)
    else s.groupTarget g (demandDir m) (u16 m 2)

/-- R99: HELM_DEMAND passed on: the value held within ± 1,000 ‰. -/
def State.helmDemand (q : Received) (s : State) : State := s.setHelm (clampInt (-1000) 1000 (i16 q.frame.data 0))

/-! ## Toward neutral without a demand -/

/-- R73: one ASSIST lane sent toward neutral as the ASSIST boat becomes uncoupled: out of its group, its kick and crash
flag gone, its target NEUTRAL, 0. -/
def State.uncoupleLane (l : Fin 4) (s : State) : State :=
  match s.lanes.rows.get l with
  | some row =>
    if row.boat = .assist ∧ (s.lane l).state.ordered then
      let s1 := s.leaveGroup l
      let r := (s1.lane l).dropKick
      (s1.putLane l { r with crash := false }).applyChange l row .neutral 0 none
    else s
  | none => s

/-- R73: ASSIST_UNCOUPLED raised with the coupling, and every ASSIST lane sent toward neutral, in ascending index (the
model's choice: assumption log 57). -/
def State.uncoupleAssist (c : Fin 32) (s : State) : State :=
  forAll 4 State.uncoupleLane (s.raise .assistUncoupled (some c.val))

/-- R123: at the acceptance of a release, the pending engagement of a NEUTRAL lane of the borne boat is discarded. -/
def State.discardPending (b : Boat) (l : Fin 4) (s : State) : State :=
  match s.lanes.rows.get l with
  | some row =>
    let r := s.lane l
    if row.boat = b ∧ r.state = .neutral ∧ r.pending.isSome then
      (s.putLane l { r with pending := none, targetDir := .neutral, targetSpeed := 0, dwellTimer := none }).leaveGroup l
    else s
  | none => s

end Sys2Proof.Machine
end

