-- ==== Sys2Proof/Machine/Tanks.lean ====
section
/-!
DEFINITION. Tank accounts and reserve (chapter 8): the writes of R131, TANK_OVERDRAWN (R137, R139) and the reserve with its
FUEL_RESERVE entries (R141).
-/

namespace Sys2Proof.Machine

/-- One kg in mg. -/
def mgPerKg : Nat := 1000000

/-- An account field holds a signed integer of 64 bits (section 8.1). What it holds when the exact sum does not fit is not
stated: a free value (assumption log 8). -/
def account (x : Int) : Int :=
  if -9223372036854775808 ≤ x ∧ x ≤ 9223372036854775807 then x else (Config.accountOverflow x).toInt

/-- A tank's account. -/
def State.acct (s : State) (k : Fin 16) : TankAcct := s.fuel.accts.get k

/-- A tank's account replaced. -/
def State.putAcct (k : Fin 16) (a : TankAcct) (s : State) : State :=
  { s with fuel := { s.fuel with accts := s.fuel.accts.set k a } }

/-! ## The writes of R131 on one account -/

/-- R131, R137: an engine draw of `m` mg. -/
def TankAcct.draw (m : Int) (a : TankAcct) : TankAcct :=
  { a with content := account (a.content - m), drawn := account (a.drawn + m) }

/-- R131, R139: `m` mg given to a transfer. -/
def TankAcct.give (m : Int) (a : TankAcct) : TankAcct :=
  { a with content := account (a.content - m), outTotal := account (a.outTotal + m) }

/-- R131, R139: `m` mg received from a transfer. -/
def TankAcct.receive (m : Int) (a : TankAcct) : TankAcct :=
  { a with content := account (a.content + m), inTotal := account (a.inTotal + m) }

/-- R131, R155, R156: the content set to `v` mg. -/
def TankAcct.adjust (v : Int) (a : TankAcct) : TankAcct :=
  { a with content := v, adjustment := account (a.adjustment + (v - a.content)) }

/-- R130: a new account period opened at `v` mg. -/
def TankAcct.open_ (v : Int) (a : TankAcct) : TankAcct :=
  { a with defined := true, content := v, opening := v, drawn := 0, inTotal := 0, outTotal := 0, adjustment := 0 }

/-! ## Reserve (R141) -/

/-- R141: a lane is fed by a tank when its row names the tank as its feed tank. -/
def LaneRow.fedBy (k : Fin 16) (row : LaneRow) : Bool := row.feedTank == k

/-- R141: FUEL_RESERVE posted, at the lane's reserve cap, on every lane fed by a tank. -/
def State.postReserve (k : Fin 16) (s : State) : State :=
  s.postCeilings (LaneRow.fedBy k) (fun row c => { c with fuelReserve := some row.reserveCap })

/-- R141: FUEL_RESERVE removed from every lane fed by a tank. -/
def State.removeReserve (k : Fin 16) (s : State) : State :=
  s.postCeilings (LaneRow.fedBy k) (fun _ c => { c with fuelReserve := none })

/-- R141, first row: the at-reserve flag set, FUEL_RESERVE posted, TANK_RESERVE raised. -/
def State.setReserve (k : Fin 16) (s : State) : State :=
  (((s.putAcct k { s.acct k with atReserve := true }).postReserve k).raise .tankReserve (some k.val))

/-- R141, second row: the at-reserve flag clear, FUEL_RESERVE removed. -/
def State.clearReserve (k : Fin 16) (s : State) : State :=
  (s.putAcct k { s.acct k with atReserve := false }).removeReserve k

/-- R141: the reserve of a tank evaluated with hysteresis. -/
def State.evalReserve (k : Fin 16) (s : State) : State :=
  match s.fuel.tanks.get k with
  | some row =>
    let a := s.acct k
    if row.kind = .feed ∧ a.defined then
      if a.atReserve = false ∧ a.content < row.reserve * mgPerKg then s.setReserve k
      else if a.atReserve ∧ ((row.reserve + row.hysteresis) * mgPerKg : Nat) ≤ a.content then s.clearReserve k
      else s
    else s
  | none => s

/-- R141: the reserve of a tank decided afresh (OPEN_TANK, command reset). -/
def State.freshReserve (k : Fin 16) (s : State) : State :=
  match s.fuel.tanks.get k with
  | some row =>
    let a := s.acct k
    if row.kind = .feed ∧ a.defined then
      if a.content < row.reserve * mgPerKg then s.setReserve k else s.clearReserve k
    else s
  | none => s

/-! ## Writes in an event (R131, R137, R139) -/

/-- R137, R139: TANK_OVERDRAWN when a write takes a content from zero or above to below zero. -/
def State.overdrawn (k : Fin 16) (before : Int) (s : State) : State :=
  if 0 ≤ before ∧ (s.acct k).content < 0 then s.raise .tankOverdrawn (some k.val) else s

/-- R137: a draw charged to a tank; TANK_OVERDRAWN is raised before the reserve is evaluated (assumption log 27). -/
def State.charge (k : Fin 16) (m : Int) (s : State) : State :=
  let a := s.acct k
  ((s.putAcct k (a.draw m)).overdrawn k a.content).evalReserve k

/-- R139: a transfer movement of `m` mg written to both tanks in one event; a movement of 0 mg changes nothing. The reserves
are evaluated before TANK_OVERDRAWN is raised, as the rule names them (assumption log 27). -/
def State.moveFuel (src dst : Fin 16) (m : Nat) (s : State) : State :=
  if m = 0 then s
  else
    let before := (s.acct src).content
    let s1 := s.putAcct src ((s.acct src).give m)
    let s2 := s1.putAcct dst ((s1.acct dst).receive m)
    ((s2.evalReserve src).evalReserve dst).overdrawn src before

/-- R155, R156: a content set by reconciliation or ADJUST_TANK. -/
def State.adjustTank (k : Fin 16) (v : Int) (s : State) : State :=
  (s.putAcct k ((s.acct k).adjust v)).evalReserve k

end Sys2Proof.Machine
end

