-- ==== Sys2Proof/Machine/Transfers.lean ====
section
/-!
DEFINITION. The transfer controller (chapter 9): admission tests, start, stop, close and promotion, pump status, readings
handed over, timers, and hose loss.
-/

namespace Sys2Proof.Machine

/-! ## The result codes of a request (R159), used by the admission tests -/

/-- The result codes, in the order R159 lists them. -/
inductive Result where
  | done | halted | busy | badState | range | unknownRequest | notConfigured | rowInUse | incompleteBank | partError
  | laidUp | transferActive | slotFull | noRoom | insufficient | hoseNotFast | notArmed
deriving DecidableEq, Repr

/-- The number of a result code: DONE 0 to NOT_ARMED 16 (11.6). -/
def Result.number : Result → Nat
  | .done => 0
  | .halted => 1
  | .busy => 2
  | .badState => 3
  | .range => 4
  | .unknownRequest => 5
  | .notConfigured => 6
  | .rowInUse => 7
  | .incompleteBank => 8
  | .partError => 9
  | .laidUp => 10
  | .transferActive => 11
  | .slotFull => 12
  | .noRoom => 13
  | .insufficient => 14
  | .hoseNotFast => 15
  | .notArmed => 16

/-! ## Tests (R144, R146) -/

/-- The tank is an end of a transfer. -/
def Xfer.endsAt (x : Xfer) (k : Fin 16) : Bool := x.source == k || x.dest == k

/-- The tank is an end of the transfer in either slot (R128, R130, R156). -/
def State.tankBusy (s : State) (k : Fin 16) : Bool :=
  s.transfers.active.any (fun x => x.endsAt k) || s.transfers.waiting.any (fun x => x.endsAt k)

/-- The channel is the meter channel of the transfer in either slot (R132). -/
def State.channelBusy (s : State) (ch : Fin 8) : Bool :=
  s.transfers.active.any (fun x => x.channel == ch) || s.transfers.waiting.any (fun x => x.channel == ch)

/-- Either slot is occupied. -/
def State.slotsOccupied (s : State) : Bool := s.transfers.active.isSome || s.transfers.waiting.isSome

/-- R144, R150: a BARGE tank's hose coupling is MADE_FAST; other tanks have no hose. -/
def State.hoseFast (s : State) (k : Fin 16) : Bool :=
  match s.fuel.tanks.get k with
  | some row => if row.kind = .barge then (match row.hose with | some c => s.madeFast c | none => false) else true
  | none => true

/-- The capacity of a tank in mg. -/
def State.capacityMg (s : State) (k : Fin 16) : Int :=
  match s.fuel.tanks.get k with
  | some row => ((row.capacity * mgPerKg : Nat) : Int)
  | none => 0

/-- The tank is defined: its row loaded and OPEN_TANK done (section 8.1). -/
def State.tankDefined (s : State) (k : Fin 16) : Bool := (s.fuel.tanks.get k).isSome && (s.acct k).defined

/-- R144: the RANGE test of a transfer. -/
def State.xferInRange (s : State) (src dst : Fin 16) (amount pumpNode : Nat) (ch : Fin 8) : Bool :=
  src != dst && s.tankDefined src && s.tankDefined dst && within 1 200000 amount && nodeOk s.node pumpNode
  && (match s.fuel.channels.get ch with | some row => row.kind == .transfer | none => false)

/-- R144, R146: the INSUFFICIENT, NO_ROOM and HOSE_NOT_FAST tests, in their order. -/
def State.xferRefusal (s : State) (src dst : Fin 16) (amount : Nat) : Option Result :=
  let mg : Int := ((amount * mgPerKg : Nat) : Int)
  if (s.acct src).content < mg then some .insufficient
  else if s.capacityMg dst - (s.acct dst).content < mg then some .noRoom
  else if s.hoseFast src && s.hoseFast dst then none
  else some .hoseNotFast

/-! ## Orders, start and stop (R148, R150) -/

/-- A PUMP_ORDER to the record's pump: 0 START, 1 STOP, and the transfer number (11.2). -/
def State.pumpOrder (x : Xfer) (stop : Bool) (s : State) : State :=
  s.order x.pumpPort .pumpOrder x.pumpNode [if stop then 1#8 else 0#8, byte x.number]

/-- The ACTIVE slot replaced. -/
def State.putActive (x : Option Xfer) (s : State) : State :=
  { s with transfers := { s.transfers with active := x } }

/-- R148: a record started in the ACTIVE slot. -/
def State.startXfer (x : Xfer) (s : State) : State :=
  let x' := { x with state := .starting, pumpStopped := false, startTimer := some (s.now + 10000),
                     stopTimer := none, repeatTimer := some (s.now + 1000) }
  (s.putActive (some x')).pumpOrder x' false

/-- R150: a closing cause takes the ACTIVE record to STOPPING with its code: from STARTING or RUNNING with one stop order
and the stop timer started, from SUSPENDING with flag and timers as they stood. -/
def State.stopXfer (code : CloseCode) (x : Xfer) (s : State) : State :=
  match x.state with
  | .starting | .running =>
    let x' := { x with state := .stopping, code := some code, pumpStopped := false, startTimer := none,
                       stopTimer := some (s.now + 10000), repeatTimer := some (s.now + 1000) }
    (s.putActive (some x')).pumpOrder x' true
  | .suspending => s.putActive (some { x with state := .stopping, code := some code })
  | .pending | .suspended | .stopping | .closed => s

/-! ## Close and promotion (R145, R146) -/

/-- The number of a close code (11.6). -/
def CloseCode.number : CloseCode → Nat
  | .complete => 0
  | .cancelled => 1
  | .hoseLost => 2
  | .meterLost => 3
  | .destFull => 4
  | .pumpFault => 5
  | .refusedAtStart => 6
  | .reset => 7

/-- A record as it closes: CLOSED, with the first cause recorded for it, every timer stopped (R145). -/
def Xfer.closedWith (code : CloseCode) (x : Xfer) : Xfer :=
  { x with state := .closed, code := some (x.code.getD code), startTimer := none, stopTimer := none,
           repeatTimer := none }

/-- The ATTENTION data of TRANSFER_CLOSED: number, ends, and the 40-bit value of close code, amount and moved kg (11.6). -/
def closedData (x : Xfer) : List Byte :=
  let code := (x.code.map CloseCode.number).getD 0
  let kg := min 262143 (x.moved / mgPerKg)
  [byte 24, byte x.number, byte (x.source.val * 16 + x.dest.val)]
    ++ beBytes 5 (code * 2 ^ 36 + x.amount * 2 ^ 18 + kg)

/-- A closed record becomes the last closed record, and TRANSFER_CLOSED is raised with it (R145). -/
def State.noteClosed (x : Xfer) (s : State) : State :=
  ({ s with transfers := { s.transfers with lastClosed := some x } }).raiseWith .transferClosed (some x.number)
    (closedData x)

/-- R146: as the ACTIVE slot becomes empty, the PENDING record is tested again and started, or closed REFUSED_AT_START. -/
def State.promote (s : State) : State :=
  match s.transfers.active, s.transfers.waiting with
  | none, some x =>
    let s1 := { s with transfers := { s.transfers with waiting := none } }
    if s.xferInRange x.source x.dest x.amount x.pumpNode x.channel
        && (s.xferRefusal x.source x.dest x.amount).isNone then s1.startXfer x
    else s1.noteClosed (x.closedWith .refusedAtStart)
  | _, _ => s

/-- R145, R146: the ACTIVE record closes with a code, and promotion follows in the same event. -/
def State.closeActive (code : CloseCode) (x : Xfer) (s : State) : State :=
  ((s.putActive none).noteClosed (x.closedWith code)).promote

/-- R145: the PENDING record closes with a code. -/
def State.closeWaiting (code : CloseCode) (x : Xfer) (s : State) : State :=
  ({ s with transfers := { s.transfers with waiting := none } }).noteClosed (x.closedWith code)

/-- R151: the end of SUSPENDING is SUSPENDED, with the stop and repeat timers stopped; the end of STOPPING is the close. -/
def State.endStop (x : Xfer) (s : State) : State :=
  match x.state with
  | .suspending => s.putActive (some { x with state := .suspended, stopTimer := none, repeatTimer := none })
  | .stopping => s.closeActive .cancelled x
  | .pending | .starting | .running | .suspended | .closed => s

/-! ## Events of the controller -/

/-- R136, R138, R139: the states in which readings of the meter channel belong to the transfer. -/
def XferState.metered : XferState → Bool
  | .starting | .running | .suspending | .stopping => true
  | .pending | .suspended | .closed => false

/-- R149: the closing cause a movement brings, COMPLETE before DEST_FULL; none in STOPPING. -/
def State.movementCause (s : State) (x : Xfer) : Option CloseCode :=
  if x.state = .stopping then none
  else if x.amount * mgPerKg ≤ x.moved then some .complete
  else match s.fuel.tanks.get x.dest with
    | some row =>
      if (((row.capacity - row.fullMargin) * mgPerKg : Nat) : Int) ≤ (s.acct x.dest).content then some .destFull
      else none
    | none => none

/-- R139, R149, R151: a reading of `delta` pulses and `m` mg handed over to the ACTIVE transfer: the mass is moved in full,
then COMPLETE and DEST_FULL are tested, then the end condition. No rule orders the tests of R149 against the end of R151;
tested first, a reading without pulses in SUSPENDING at which one of them holds closes the record with that code (the
model's choice: assumption log 60). -/
def State.takeMass (delta m : Nat) (s : State) : State :=
  match s.transfers.active with
  | none => s
  | some x =>
    let x1 := { x with moved := x.moved + m }
    let s1 := (s.putActive (some x1)).moveFuel x.source x.dest m
    let s2 := match s1.movementCause x1 with
      | some code => s1.stopXfer code x1
      | none => s1
    match s2.transfers.active with
    | some x2 => if x2.pumpStopped ∧ delta = 0 then s2.endStop x2 else s2
    | none => s2

/-- PUMP_STATUS taken (R147, R148, R150, R151). A report without a fault in SUSPENDED leaves the pump-stopped flag as it
stands (the model's choice: assumption log 54). -/
def State.takePump (q : Received) (s : State) : State :=
  match s.transfers.active with
  | none => s
  | some x =>
    if x.pumpNode = q.frame.id.source.toNat then
      let running := bitOf q.frame.data 0 0
      let fault := bitOf q.frame.data 0 1
      match x.state with
      | .starting =>
        if fault then s.stopXfer .pumpFault x
        else if running then s.putActive (some { x with state := .running, startTimer := none })
        else s
      | .running =>
        if fault || !running then
          let s1 := s.stopXfer .pumpFault x
          s1.putActive (s1.transfers.active.map (fun y => { y with pumpStopped := !running }))
        else s
      | .suspending =>
        let x1 := { x with pumpStopped := !running }
        if fault then s.stopXfer .pumpFault x1 else s.putActive (some x1)
      | .stopping => s.putActive (some { x with pumpStopped := !running })
      | .suspended => if fault then s.closeActive .pumpFault x else s
      | .pending | .closed => s
    else s

/-- R148, R150: the start timer expires in STARTING. -/
def State.startExpires (s : State) : State :=
  match s.transfers.active with
  | some x => if x.state = .starting ∧ isDue x.startTimer s.now then s.stopXfer .pumpFault x else s
  | none => s

/-- R151: the stop timer expires in SUSPENDING or STOPPING. -/
def State.stopExpires (s : State) : State :=
  match s.transfers.active with
  | some x => if isDue x.stopTimer s.now then s.endStop x else s
  | none => s

/-- R148: 1,000 ms after the record's last PUMP_ORDER the order is queued again. -/
def State.pumpRepeats (s : State) : State :=
  match s.transfers.active with
  | some x =>
    if x.state.metered ∧ isDue x.repeatTimer s.now then
      let x1 := { x with repeatTimer := some (s.now + 1000) }
      (s.putActive (some x1)).pumpOrder x1 (x.state == .suspending || x.state == .stopping)
    else s
  | none => s

/-- R150: the tank's hose passes through the coupling. -/
def State.hoseThrough (s : State) (k : Fin 16) (c : Fin 32) : Bool :=
  match s.fuel.tanks.get k with
  | some row => row.kind == .barge && row.hose == some c
  | none => false

/-- R145, R150: a coupling has left MADE_FAST: a transfer with that hose stops, or closes at once when SUSPENDED. -/
def State.loseHose (c : Fin 32) (s : State) : State :=
  match s.transfers.active with
  | some x =>
    if s.hoseThrough x.source c || s.hoseThrough x.dest c then
      if x.state = .suspended then s.closeActive .hoseLost x else s.stopXfer .hoseLost x
    else s
  | none => s

/-- R140, R150: the meter timer of a channel has expired while the transfer it meters is RUNNING. -/
def State.loseMeter (ch : Fin 8) (s : State) : State :=
  match s.transfers.active with
  | some x => if x.channel = ch ∧ x.state = .running then s.stopXfer .meterLost x else s
  | none => s

end Sys2Proof.Machine
end

