-- ==== Sys2Proof/Machine/Couplings.lean ====
section
/-!
DEFINITION. The coupling supervisor (chapter 7, and the tension derate of section 5.2): derate, the handing on of a change
of MADE_FAST, winch status, coupling timers, coupling orders, locks and the release permit.
-/

namespace Sys2Proof.Machine

/-! ## Tension derate (R78 to R80) -/

/-- R78: the derate fraction of a coupling at a tension, in ‰. -/
def CoupRow.derate (row : CoupRow) (t : Nat) : Nat :=
  if t ≤ row.soft then 1000
  else if row.hard ≤ t then row.floor
  else
    let span := row.hard - row.soft
    1000 - ((1000 - row.floor) * (t - row.soft) + (span - 1)) / span

/-- R79: a coupling contributes to the derate of a boat while it is MADE_FAST and its row bears that boat. -/
def State.contribution (s : State) (b : Boat) (c : Fin 32) : Option Nat :=
  match s.couplings.rows.get c with
  | some row =>
    if row.bears = some b ∧ (s.couplings.recs.get c).state = .madeFast then
      some (row.derate ((s.couplings.recs.get c).tension.getD 0))
    else none
  | none => none

/-- R79: the derate of a boat: the least over its contributing couplings, 1,000 when it has none. -/
def State.boatDerate (s : State) (b : Boat) : Nat := (leastOf ((indices 32).filterMap (s.contribution b))).getD 1000

/-- R75, R80: what the TENSION place of a lane of the boat holds. -/
def State.tensionEntry (s : State) (b : Boat) : Option Nat :=
  if s.boatDerate b < 1000 then some (s.boatDerate b) else none

/-- R80: TENSION posted, or removed at derate 1,000, on every loaded lane of a boat. Posting a derate that has not changed
changes nothing. -/
def State.postTension (b : Boat) (s : State) : State :=
  s.postCeilings (fun row => row.boat == b) (fun _ c => { c with tension := s.tensionEntry b })

/-- TENSION posted for the boat a coupling bears, if it bears one. -/
def State.postBorne (row : CoupRow) (s : State) : State :=
  match row.bears with
  | some b => s.postTension b
  | none => s

/-! ## Handing on (R125) -/

/-- R73: the ASSIST boat's coupled condition evaluated again: `was` is what it was before the change. -/
def State.retestAssist (was : Bool) (c : Fin 32) (s : State) : State :=
  if was && !s.assistCoupled then s.uncoupleAssist c else s

/-- R125: an entry to or a departure from MADE_FAST handed on: `before` is the state the event found. The readers take it in
the order of the table of R125, reach before the lanes. R125 calls the order without effect, but the target recorded for an
actuator that becomes UNREACHABLE as its reference lane changes depends on it (the model's choice: assumption log 64). -/
def State.handOn (s before : State) (c : Fin 32) (row : CoupRow) : State :=
  if s.madeFast c = before.madeFast c then s
  else
    let s1 := ((s.postBorne row).retestReachOf c).retestAssist before.assistCoupled c
    if before.madeFast c then s1.loseHose c else s1

/-! ## Entries to states (R113, R115) -/

/-- R113: entry to RELEASED: lock set, flag clear, every timer stopped. -/
def CoupRec.released (r : CoupRec) : CoupRec :=
  { r with state := .released, lock := true, overload := false, releaser := none, opTimer := none,
           slackTimer := none, statusTimer := none, repeatTimer := none }

/-- R113: a hook reported OPEN: entry to RELEASED with COUPLING_RELEASED raised. -/
def State.releaseCoup (c : Fin 32) (s : State) : State :=
  (s.putCoup c (s.couplings.recs.get c).released).raise .couplingReleased (some c.val)

/-- The timeouts of an operation, on which one hold order is queued (R115). -/
def CoupCause.isTimeout : CoupCause → Bool
  | .makeUpTimeout | .easeTimeout | .releaseTimeout => true
  | .statusLost | .winchFault => false

/-- R115: entry to FAULT. -/
def State.faultCoup (c : Fin 32) (row : CoupRow) (why : CoupCause) (s : State) : State :=
  let r := s.couplings.recs.get c
  let s1 := s.putCoup c { r with state := .fault, cause := some why, overload := false, releaser := none,
                                 opTimer := none, slackTimer := none, statusTimer := none, repeatTimer := none }
  let s2 := if why.isTimeout then s1.winchOrder c row .hold else s1
  s2.raise .couplingFault (some c.val)

/-- R113: the overload flag tested on a report in MADE_FAST. -/
def State.testOverload (c : Fin 32) (row : CoupRow) (tension : Nat) (s : State) : State :=
  let r := s.couplings.recs.get c
  let high := decide (row.hard ≤ tension)
  let s1 := s.putCoup c { r with overload := high }
  if high && !r.overload then s1.raise .couplingOverload (some c.val) else s1

/-! ## Winch status (R111 to R116) -/

/-- R112: a coupling in UNSYNCED adopted, by the first line that applies. -/
def State.adoptCoup (c : Fin 32) (row : CoupRow) (rep : WinchReport) (arrival : Nat) (s : State) : State :=
  let r := s.couplings.recs.get c
  let timed := { r with cause := none, statusTimer := some (arrival + row.statusTimeout) }
  if rep.fault then s.faultCoup c row .winchFault
  else if rep.hookOpen then s.putCoup c { r with cause := none }.released
  else if rep.drum = .holding ∧ row.slackLimit ≤ rep.tension then
    (s.putCoup c { timed with state := .madeFast }).testOverload c row rep.tension
  else s.putCoup c { timed with state := .slacked }

/-- R116: whether a report without a fault clears a fault cause. -/
def CoupCause.clearedBy (drum : Drum) : CoupCause → Bool
  | .statusLost | .winchFault => true
  | .makeUpTimeout | .easeTimeout | .releaseTimeout => drum == .holding || drum == .free

/-- R116: a coupling in FAULT on a report without a fault: adopted from the same frame when its cause is cleared. -/
def State.recoverCoup (c : Fin 32) (row : CoupRow) (rep : WinchReport) (arrival : Nat) (s : State) : State :=
  let r := s.couplings.recs.get c
  if (r.cause.map (CoupCause.clearedBy rep.drum)).getD true then
    (s.putCoup c { r with state := .unsynced, cause := none }).adoptCoup c row rep arrival
  else s

/-- R113, R114: the slack timer of a coupling in MADE_FAST after a report. -/
def CoupRec.slackAfter (r : CoupRec) (row : CoupRow) (tension arrival : Nat) : Option Nat :=
  if tension < row.slackLimit then some (r.slackTimer.getD (arrival + row.slackTime)) else none

/-- R113, R114: a report without a fault, by the coupling's state. No rule orders the tests one report meets; the model tests
the hook first, and a hook OPEN that releases the coupling makes no other test: no hold order in EASING, no overload test in
MADE_FAST (the model's choice: assumption log 63). -/
def State.winchTests (c : Fin 32) (row : CoupRow) (rep : WinchReport) (arrival : Nat) (s : State) : State :=
  let r := s.couplings.recs.get c
  match r.state with
  | .unsynced => s.adoptCoup c row rep arrival
  | .fault => s.recoverCoup c row rep arrival
  | .released =>
    if rep.hookOpen then s
    else s.putCoup c { r with state := .slacked, statusTimer := some (arrival + row.statusTimeout) }
  | .slacked | .releasing | .lost => if rep.hookOpen then s.releaseCoup c else s
  | .makingUp =>
    if row.makeUpTarget - row.makeUpBand ≤ rep.tension ∧ rep.drum = .holding then
      s.putCoup c { r with state := .madeFast, opTimer := none, repeatTimer := none }
    else s
  | .madeFast =>
    if rep.hookOpen then s.releaseCoup c
    else (s.putCoup c { r with slackTimer := r.slackAfter row rep.tension arrival }).testOverload c row rep.tension
  | .easing =>
    if rep.hookOpen then s.releaseCoup c
    else if rep.tension < row.slackLimit then
      (s.putCoup c { r with state := .slacked, opTimer := none, repeatTimer := none }).winchOrder c row .hold
    else s

/-- R111: the states in which a status restarts the status timer. -/
def CoupState.watched : CoupState → Bool
  | .unsynced | .released | .fault => false
  | .slacked | .makingUp | .madeFast | .easing | .releasing | .lost => true

/-- R111: what a status does to a coupling, in the order of the rule. -/
def State.winchActs (c : Fin 32) (row : CoupRow) (rep : WinchReport) (arrival : Nat) (s : State) : State :=
  let old := s.couplings.recs.get c
  let told := { old with tension := some rep.tension, drum := some rep.drum, hookOpen := some rep.hookOpen }
  let r := if old.state.watched then { told with statusTimer := some (arrival + row.statusTimeout) } else told
  let s1 := s.putCoup c r
  if rep.fault then
    match old.state with
    | .fault => s1.putCoup c { r with cause := some .winchFault }
    | .unsynced | .released | .slacked | .makingUp | .madeFast | .easing | .releasing | .lost =>
      s1.faultCoup c row .winchFault
  else s1.winchTests c row rep arrival

/-- The coupling whose loaded row names a winch node. -/
def State.coupOf (s : State) (node : Nat) : Option (Fin 32) :=
  (indices 32).find? (fun c => match s.couplings.rows.get c with
    | some row => row.node == node
    | none => false)

/-- WINCH_STATUS taken (R111): its effects on the coupling, the handing on of R125, and the derate of the borne boat. -/
def State.takeWinch (q : Received) (s : State) : State :=
  match s.coupOf q.frame.id.source.toNat with
  | none => s
  | some c =>
    match s.couplings.rows.get c with
    | none => s
    | some row => ((s.winchActs c row (winchReport q.frame.data) q.arrival).handOn s c row).postBorne row

/-! ## Coupling timers -/

/-- `f` on a coupling whose row is loaded. -/
def State.withCoup (c : Fin 32) (f : CoupRow → State) (s : State) : State :=
  match s.couplings.rows.get c with
  | some row => f row
  | none => s

/-- R111, R115: the status timer of a coupling expires. -/
def State.coupSilent (c : Fin 32) (s : State) : State :=
  s.withCoup c fun row =>
    let r := s.couplings.recs.get c
    if isDue r.statusTimer s.now ∧ r.state.watched then (s.faultCoup c row .statusLost).handOn s c row else s

/-- R114: the slack timer of a coupling expires: LOST. -/
def State.slackExpires (c : Fin 32) (s : State) : State :=
  s.withCoup c fun row =>
    let r := s.couplings.recs.get c
    if isDue r.slackTimer s.now ∧ r.state = .madeFast then
      ((s.putCoup c { r with state := .lost, overload := false, slackTimer := none }).raise .couplingLost
        (some c.val)).handOn s c row
    else s

/-- R115: the cause of an operation's timeout. -/
def CoupState.timeout : CoupState → Option CoupCause
  | .makingUp => some .makeUpTimeout
  | .easing => some .easeTimeout
  | .releasing => some .releaseTimeout
  | .unsynced | .released | .slacked | .madeFast | .lost | .fault => none

/-- R115: the operation timer of a coupling expires. -/
def State.operationExpires (c : Fin 32) (s : State) : State :=
  s.withCoup c fun row =>
    let r := s.couplings.recs.get c
    match r.state.timeout with
    | some why => if isDue r.opTimer s.now then s.faultCoup c row why else s
    | none => s

/-- R120: the order an operation repeats. -/
def CoupState.repeats : CoupState → Option WinchAction
  | .makingUp => some .heave
  | .easing => some .payOut
  | .releasing => some .openHook
  | .unsynced | .released | .slacked | .madeFast | .lost | .fault => none

/-- R120: a WINCH_ORDER of an operation queued, and the repeat timer (re)started. -/
def State.operate (c : Fin 32) (row : CoupRow) (act : WinchAction) (s : State) : State :=
  (s.putCoup c { s.couplings.recs.get c with repeatTimer := some (s.now + 500) }).winchOrder c row act

/-- R120: the repeat timer of a coupling expires. -/
def State.coupRepeats (c : Fin 32) (s : State) : State :=
  s.withCoup c fun row =>
    let r := s.couplings.recs.get c
    match r.state.repeats with
    | some act => if isDue r.repeatTimer s.now then s.operate c row act else s
    | none => s

/-! ## Orders (R117 to R123) -/

/-- A COUPLING_ORDER as demand intake passes it on: its source and its coupling byte. -/
structure OrderOf where
  source  : Nat
  arrival : Nat
  index   : Nat
deriving DecidableEq, Repr

/-- The content of a COUPLING_ORDER frame (11.3). -/
def orderOf (q : Received) : OrderOf where
  source := q.frame.id.source.toNat
  arrival := q.arrival
  index := u8 q.frame.data 1

/-- R117: the RANGE test of an order that names a coupling: refused, or taken with the coupling and its row. -/
def State.ranged (o : CoupOrder) (q : OrderOf) (f : Fin 32 → CoupRow → State) (s : State) : State :=
  match idx 32 q.index with
  | none => s.refuseOrder q.source o none .range
  | some c =>
    match s.couplings.rows.get c with
    | none => s.refuseOrder q.source o (some c) .range
    | some row => f c row

/-- R118: MAKE_UP. -/
def State.makeUpOrder (q : OrderOf) (s : State) : State :=
  s.ranged .makeUp q fun c row =>
    let r := s.couplings.recs.get c
    match r.state with
    | .released | .slacked | .lost =>
      (s.putCoup c { r with state := .makingUp, opTimer := some (s.now + row.makeUpTimeout) }).operate c row .heave
    | .makingUp | .madeFast => s
    | .unsynced | .easing | .releasing | .fault => s.refuseOrder q.source .makeUp (some c) .badState

/-- R119: EASE. -/
def State.easeOrder (q : OrderOf) (s : State) : State :=
  s.ranged .ease q fun c row =>
    let r := s.couplings.recs.get c
    match r.state with
    | .madeFast =>
      ((s.putCoup c { r with state := .easing, overload := false, slackTimer := none,
                             opTimer := some (s.now + row.easeTimeout) }).operate c row .payOut).handOn s c row
    | .easing | .slacked => s
    | .unsynced | .released | .makingUp | .releasing | .lost | .fault =>
      s.refuseOrder q.source .ease (some c) .badState

/-- R121: LOCK. -/
def State.lockOrder (q : OrderOf) (s : State) : State :=
  s.ranged .lock q fun c _ => (s.putCoup c { s.couplings.recs.get c with lock := true }).dueCoupling c

/-- R121: LOCK_ALL. -/
def State.lockAllOrder (s : State) : State :=
  forAll 32 (fun c s => s.withCoup c fun _ => s.putCoup c { s.couplings.recs.get c with lock := true }) s

/-- R122: the source holds the release permit. -/
def State.holdsPermit (s : State) (source : Nat) : Bool :=
  match s.couplings.permit with
  | some p => p.holder == source
  | none => false

/-- R122: the permit record cleared as its holder's permit-needing order is taken; otherwise left as it is. -/
def State.usePermit (source : Nat) (s : State) : State :=
  if s.holdsPermit source then { s with couplings := { s.couplings with permit := none } } else s

/-- R121: UNLOCK. -/
def State.unlockOrder (q : OrderOf) (s : State) : State :=
  let s1 := s.usePermit q.source
  s1.ranged .unlock q fun c _ =>
    let r := s1.couplings.recs.get c
    if s.holdsPermit q.source = false then s1.refuseOrder q.source .unlock (some c) .noPermit
    else if r.state = .released then s1.refuseOrder q.source .unlock (some c) .badState
    else (s1.putCoup c { r with lock := false }).dueCoupling c

/-- R121: UNLOCK_ALL. -/
def State.unlockAllOrder (q : OrderOf) (s : State) : State :=
  if s.holdsPermit q.source then
    forAll 32 (fun c s => s.withCoup c fun _ =>
      let r := s.couplings.recs.get c
      if r.state = .released then s else s.putCoup c { r with lock := false }) (s.usePermit q.source)
  else s.refuseOrder q.source .unlockAll none .noPermit

/-- R122: PERMIT. -/
def State.permitOrder (q : OrderOf) (s : State) : State :=
  { s with couplings := { s.couplings with permit := some { holder := q.source, setAt := q.arrival } } }

/-- R122: the permit expires 10,000 ms after it was set. -/
def State.permitExpires (s : State) : State :=
  match s.couplings.permit with
  | some p => if p.setAt + 10000 ≤ s.now then { s with couplings := { s.couplings with permit := none } } else s
  | none => s

/-- R123: a FACE or ASSIST coupling, whose release is bound to the lanes of the boat it bears. -/
def CoupRow.bindsLanes (row : CoupRow) : Bool := row.kind == .face || row.kind == .assist

/-- R123: a loaded lane of the boat is active. -/
def State.boatActive (s : State) (b : Option Boat) : Bool :=
  (indices 4).any (fun l => match s.lanes.rows.get l with
    | some row => b == some row.boat && (s.lane l).state.active
    | none => false)

/-- R123: the coupling is the hose coupling of an end of the transfer in either slot. -/
def State.hoseInUse (s : State) (c : Fin 32) : Bool :=
  let uses (x : Xfer) : Bool := s.hoseThrough x.source c || s.hoseThrough x.dest c
  s.transfers.active.any uses || s.transfers.waiting.any uses

/-- R123: the reason a RELEASE of a coupling in range is refused, at the first test that fails. -/
def State.releaseRefusal (s : State) (source : Nat) (c : Fin 32) (row : CoupRow) : Option CoupReason :=
  let r := s.couplings.recs.get c
  if r.lock then some .locked
  else if s.holdsPermit source = false then some .noPermit
  else if r.state ≠ .slacked then some .notSlack
  else if row.bindsLanes ∧ s.boatActive row.bears then some .propulsionActive
  else if s.hoseInUse c then some .hoseInUse
  else none

/-- R123: the pending engagements of the borne boat's NEUTRAL lanes discarded, for a FACE or ASSIST coupling. -/
def State.discardFor (row : CoupRow) (s : State) : State :=
  match row.bears with
  | some b => if row.bindsLanes then forAll 4 (State.discardPending b) s else s
  | none => s

/-- R123: RELEASE. -/
def State.releaseOrder (q : OrderOf) (s : State) : State :=
  let s1 := s.usePermit q.source
  s1.ranged .release q fun c row =>
    match s.releaseRefusal q.source c row with
    | some why => s1.refuseOrder q.source .release (some c) why
    | none =>
      ((s1.putCoup c { s1.couplings.recs.get c with
          state := .releasing, lock := true, releaser := some q.source,
          opTimer := some (s.now + row.releaseTimeout) }).operate c row .openHook).discardFor row

/-! ## Mode changes and the table (R108, R109, R126) -/

/-- MAKING_UP, EASING or RELEASING: an operation in progress. -/
def CoupState.operating : CoupState → Bool
  | .makingUp | .easing | .releasing => true
  | .unsynced | .released | .slacked | .madeFast | .lost | .fault => false

/-- R126: an operation in progress abandoned as the mode becomes PASS_THROUGH. -/
def State.abandonOperation (c : Fin 32) (s : State) : State :=
  let r := s.couplings.recs.get c
  if r.state.operating then
    s.putCoup c { r with state := .unsynced, releaser := none, opTimer := none, repeatTimer := none,
                         statusTimer := none }
  else s

/-- UNSYNCED, RELEASED or FAULT: a coupling whose row may be loaded (R108, R109). -/
def CoupState.loadable : CoupState → Bool
  | .unsynced | .released | .fault => true
  | .slacked | .makingUp | .madeFast | .easing | .releasing | .lost => false

end Sys2Proof.Machine
end

