-- ==== Sys2Proof/Machine/Intake.lean ====
section
/-!
DEFINITION. Demand intake (chapter 3): the tests of a demand, take and release of command, loss and its lift.
-/

namespace Sys2Proof.Machine

/-! ## Records -/

/-- The in-command record of a job. -/
def State.job (s : State) : Job → JobRec
  | .prop => s.intake.prop
  | .steer => s.intake.steer

/-- The in-command record of a job replaced; a change of its loss state makes COMMAND_STATE due (section 3.4). -/
def State.putJob (j : Job) (r : JobRec) (s : State) : State :=
  let s1 := match j with
    | .prop => { s with intake := { s.intake with prop := r } }
    | .steer => { s with intake := { s.intake with steer := r } }
  if (s.job j).loss = r.loss then s1 else s1.dueCommand

/-- The row of the station table that names a node. -/
def State.stationOf (s : State) (node : Nat) : Option (Fin 4) :=
  (indices 4).find? (fun i => match s.intake.stations.get i with
    | some row => row.node == node
    | none => false)

/-- A right over a job. -/
def StationRow.holds (row : StationRow) : Job → Bool
  | .prop => row.prop
  | .steer => row.steer

/-- A row's refusal count increased by one. -/
def State.countRefusal (i : Fin 4) (s : State) : State :=
  { s with intake := { s.intake with refusals := s.intake.refusals.modify i bump } }

/-! ## Loss and lift (R42 to R44) -/

/-- R43: COMMAND_LOSS posted, at the lane's idle speed, on every loaded lane. -/
def State.postLoss (s : State) : State :=
  s.postCeilings (fun _ => true) (fun row c => { c with commandLoss := some row.idle })

/-- R44: COMMAND_LOSS removed from every lane. -/
def State.removeLoss (s : State) : State :=
  s.postCeilings (fun _ => true) (fun _ c => { c with commandLoss := none })

/-- R43: the hold of a job expires: LOST, degraded, COMMAND_LOSS raised. -/
def State.degrade (j : Job) (s : State) : State :=
  let s1 := s.putJob j { s.job j with loss := .lost }
  let s2 := match j with
    | .prop => s1.postLoss
    | .steer => s1.setHelm 0
  s2.raise .commandLoss (some (jobCode j))

/-- R42: a loss begins: HOLDING from its start; a hold time of 0 expires as the loss begins (R43). -/
def State.beginLoss (j : Job) (since : Nat) (s : State) : State :=
  let s1 := s.putJob j { s.job j with loss := .holding since }
  if s.intake.holdTime = 0 then s1.degrade j else s1

/-- R44: a loss ended by an accepted demand or take: ATTENDED, and the degradation of PROP lifted. -/
def State.lift (j : Job) (s : State) : State :=
  let s1 := s.putJob j { s.job j with loss := .attended }
  match j, (s.job j).loss with
  | .prop, .lost => s1.removeLoss
  | _, _ => s1

/-- R36, R44: an accepted demand heard, and a loss lifted by it. -/
def State.hear (j : Job) (arrival : Nat) (s : State) : State :=
  (s.putJob j { s.job j with lastHeard := some arrival }).lift j

/-- R33, R42: the demand timeout of a job has expired. -/
def State.timedOut (s : State) (j : Job) : Bool :=
  decide ((s.job j).loss = .attended) && isDue ((s.job j).lastHeard.map (· + s.intake.demandTimeout)) s.now

/-- R33, R43: the hold of a job has expired. -/
def State.holdOut (s : State) (j : Job) : Bool :=
  match (s.job j).loss with
  | .holding since => decide (since + s.intake.holdTime ≤ s.now)
  | .attended | .lost => false

/-- R42: the demand timeout of a job expires. -/
def State.timeoutExpires (j : Job) (s : State) : State := if s.timedOut j then s.beginLoss j s.now else s

/-- R43: the hold of a job expires. -/
def State.holdExpires (j : Job) (s : State) : State := if s.holdOut j then s.degrade j else s

/-! ## Demands (R34, R36, R37) -/

/-- R34: the object of a refusal of a demand. -/
def demandObject (k : MsgKind) (d : List Byte) : Object :=
  match k with
  | .speedDemand | .neutralDemand | .kickDemand => match idx 4 (u8 d 0) with
    | some l => .lane l
    | none => .none
  | .groupDemand => match idx 2 (u8 d 0) with
    | some g => .group g
    | none => .none
  | .helmDemand => .helm
  | _ => .none

/-- R34, R37: a demand of a job tested, heard, and passed on by `pass`. -/
def State.takeDemand (k : MsgKind) (j : Job) (pass : State → State) (q : Received) (s : State) : State :=
  let source := q.frame.id.source.toNat
  let o := demandObject k q.frame.data
  match s.stationOf source with
  | none => s.refuseDemand source k .noRight o
  | some i =>
    match s.intake.stations.get i with
    | none => s
    | some row =>
      if row.holds j = false then (s.countRefusal i).refuseDemand source k .noRight o
      else if (s.job j).station ≠ some i then (s.countRefusal i).refuseDemand source k .notInCommand o
      else
        let s1 := s.hear j q.arrival
        if s.mgmt.mode = .laidUp then s1.refuseDemand source k .laidUp o else pass s1

/-! ## Take and release (R38 to R41, R45) -/

/-- R39: the target a lever of a lane is compared with. -/
def State.leverTarget (s : State) (l : Fin 4) (row : LaneRow) : Dir × Nat :=
  let r := s.lane l
  match row.home with
  | some g => if r.inStep then ((s.groups.recs.get g).targetDir, (s.groups.recs.get g).targetSpeed)
    else (r.targetDir, r.targetSpeed)
  | none => (r.targetDir, r.targetSpeed)

/-- The distance of two numbers. -/
def gap (a b : Nat) : Nat := (a - b) + (b - a)

/-- R39: a lever matches a target. -/
def leverMatches (tol : Nat) (d : List Byte) (l : Fin 4) (target : Dir × Nat) : Bool :=
  let dir := if target.2 = 0 then Dir.neutral else target.1
  decide (dirOfCode (leverDir d l) = some dir) && (dir == .neutral || decide (gap (leverSpeed d l) target.2 ≤ tol))

/-- R39: every lever of a take matches. -/
def State.leversMatch (s : State) (row : StationRow) (j : Job) (d : List Byte) : Bool :=
  match j with
  | .prop => (indices 4).all (fun l => match s.lanes.rows.get l with
      | some lane => !(s.lane l).state.ordered || leverMatches row.speedTol d l (s.leverTarget l lane)
      | none => true)
  | .steer => decide ((i16 d 1 - s.steering.helm).natAbs ≤ row.helmTol)

/-- R45: the record of the most recent take, with COMMAND_STATE due. -/
def State.noteTake (source : Nat) (j : Job) (res : TakeResult) (s : State) : State :=
  ({ s with intake := { s.intake with lastTake := some { source := source, job := j, result := res } } }).dueCommand

/-- R40: a take accepted. -/
def State.acceptTake (i : Fin 4) (j : Job) (arrival : Nat) (s : State) : State :=
  (s.putJob j { s.job j with station := some i, lastHeard := some arrival }).lift j

/-- R38: TAKE_COMMAND. -/
def State.takeCommand (q : Received) (s : State) : State :=
  let source := q.frame.id.source.toNat
  let j := demandJob q.frame.data
  match s.stationOf source with
  | none => (s.noteTake source j .noRight).refuseDemand source .takeCommand .noRight (.job j)
  | some i =>
    match s.intake.stations.get i with
    | none => s
    | some row =>
      if row.holds j = false then
        ((s.countRefusal i).noteTake source j .noRight).refuseDemand source .takeCommand .noRight (.job j)
      else if (s.job j).station = some i then
        (s.noteTake source j .renewal).acceptTake i j q.arrival
      else if (s.job j).station = none ∨ row.override ∨ s.leversMatch row j q.frame.data then
        ((s.noteTake source j .accepted).acceptTake i j q.arrival).raise .commandHandover (some source)
      else
        ((s.countRefusal i).noteTake source j .mismatch).refuseDemand source .takeCommand .mismatch (.job j)

/-- R41: RELEASE_COMMAND. A job released keeps its last-heard time (the model's choice: assumption log 49). -/
def State.releaseCommand (q : Received) (s : State) : State :=
  let j := demandJob q.frame.data
  match s.stationOf q.frame.id.source.toNat with
  | none => s
  | some i =>
    if (s.job j).station = some i then
      let s1 := (s.putJob j { s.job j with station := none }).dueCommand
      if (s.job j).loss = .attended then s1.beginLoss j q.arrival else s1
    else s.countRefusal i

/-! ## Coupling orders (R46) -/

/-- R46: the object of a refused COUPLING_ORDER: the coupling index it names (assumption log 18). -/
def orderObject (d : List Byte) : Object :=
  match demandCoupling d with
  | some c => .coupling c
  | none => .none

/-- R46: a COUPLING_ORDER tested for the right COUPLE and passed on by `pass`. -/
def State.takeOrder (pass : OrderOf → State → State) (q : Received) (s : State) : State :=
  let source := q.frame.id.source.toNat
  let o := orderObject q.frame.data
  match s.stationOf source with
  | none => s.refuseDemand source .couplingOrder .noRight o
  | some i =>
    match s.intake.stations.get i with
    | none => s
    | some row =>
      if row.couple then pass (orderOf q) s
      else (s.countRefusal i).refuseDemand source .couplingOrder .noRight o

/-- A COUPLING_ORDER as the coupling supervisor takes it, by its order (section 7.5). -/
def State.couplingOrder (o : CoupOrder) (q : OrderOf) (s : State) : State :=
  match o with
  | .makeUp => s.makeUpOrder q
  | .ease => s.easeOrder q
  | .release => s.releaseOrder q
  | .lock => s.lockOrder q
  | .unlock => s.unlockOrder q
  | .lockAll => s.lockAllOrder
  | .unlockAll => s.unlockAllOrder q
  | .permit => s.permitOrder q

end Sys2Proof.Machine
end

