-- ==== Sys2Proof/Machine/Meters.lean ====
section
/-!
DEFINITION. Meter readings (R133 to R140): baselines, plausibility, mass, where the mass goes, and meter silence.
-/

namespace Sys2Proof.Machine

/-! ## Arithmetic (R133 to R135) -/

/-- R133: Δ of a counter, (reported − previous) mod 65,536. -/
def pulses (reported previous : Nat) : Nat := (reported + 65536 - previous) % 65536

/-- R134: a counter's sample is implausible. -/
def implausible (row : ChanRow) (pulse delta : Nat) : Bool :=
  decide (row.cap < delta) || decide (10000000 < delta * pulse)

/-- R135: the density factor f at a reported temperature. -/
def densityFactor (alpha : Nat) (t10 : Int) : Int := 10000000 - (alpha : Int) * (clampInt (-400) 1500 t10 - 150)

/-- R135: the product N = V × ρ15 × f + r. -/
def massProduct (delta pulse rho alpha : Nat) (t10 : Int) (rem : Nat) : Nat :=
  delta * pulse * rho * (densityFactor alpha t10).toNat + rem

/-- R135: units of 10^-11 mg in one mg. -/
def massUnit : Nat := 100000000000

/-! ## The density of a reading (R136) -/

/-- The loaded lane whose row names a channel. -/
def State.laneOfChannel (s : State) (ch : Fin 8) : Option LaneRow :=
  ((indices 4).filterMap (fun l => s.lanes.rows.get l)).find? (fun row => row.channel == ch)

/-- R136, R139: the ACTIVE transfer metered by a channel. -/
def State.meteredBy (s : State) (ch : Fin 8) : Option Xfer :=
  match s.transfers.active with
  | some x => if x.channel = ch ∧ x.state.metered then some x else none
  | none => none

/-- R136: the tank whose row supplies the density of a reading. -/
def State.densityTank (s : State) (ch : Fin 8) (kind : ChanKind) : Option (Fin 16) :=
  match kind with
  | .engine => (s.laneOfChannel ch).map (·.feedTank)
  | .transfer => (s.meteredBy ch).map (·.source)

/-- R136: ρ15 and α of a reading. -/
def State.densityFor (s : State) (ch : Fin 8) (row : ChanRow) : Nat × Nat :=
  match (s.densityTank ch row.kind).bind (fun k => s.fuel.tanks.get k) with
  | some tank => (tank.density, tank.alpha)
  | none => (row.density, 0)

/-! ## Where the mass goes (R137 to R139) -/

/-- A channel's record replaced. -/
def State.putChan (ch : Fin 8) (r : ChanRec) (s : State) : State :=
  { s with fuel := { s.fuel with recs := s.fuel.recs.set ch r } }

/-- R138: an unassigned reading counted, with UNASSIGNED_FLOW raised. -/
def State.unassigned (ch : Fin 8) (m : Int) (s : State) : State :=
  let r := s.fuel.recs.get ch
  (s.putChan ch { r with unassigned := bump r.unassigned, unassignedMass := r.unassignedMass + m }).raise
    .unassignedFlow (some ch.val)

/-- R134: a discarded reading counted, with METER_IMPLAUSIBLE raised. -/
def State.discardReading (ch : Fin 8) (s : State) : State :=
  let r := s.fuel.recs.get ch
  (s.putChan ch { r with implausible := bump r.implausible }).raise .meterImplausible (some ch.val)

/-- R135, R137, R138: an ENGINE reading with pulses `ds` and `dr`. -/
def State.engineReading (ch : Fin 8) (row : ChanRow) (rep : MeterReport) (ds dr : Nat) (s : State) : State :=
  let returnPulse := row.returnPulse.getD 0
  if implausible row row.supplyPulse ds || implausible row returnPulse dr then s.discardReading ch
  else
    let r := s.fuel.recs.get ch
    let (rho, alpha) := s.densityFor ch row
    let ns := massProduct ds row.supplyPulse rho alpha rep.supplyTemp r.supplyRem
    let nr := massProduct dr returnPulse rho alpha rep.returnTemp r.returnRem
    let m : Int := ((ns / massUnit : Nat) : Int) - ((nr / massUnit : Nat) : Int)
    let s1 := s.putChan ch { r with supplyRem := ns % massUnit, returnRem := nr % massUnit }
    match s.laneOfChannel ch with
    | some lane => if s.tankDefined lane.feedTank then s1.charge lane.feedTank m else s1.unassigned ch m
    | none => s1.unassigned ch m

/-- R135, R138, R139: a TRANSFER reading with pulses `ds`. -/
def State.transferReading (ch : Fin 8) (row : ChanRow) (rep : MeterReport) (ds : Nat) (s : State) : State :=
  if implausible row row.supplyPulse ds then s.discardReading ch
  else
    let r := s.fuel.recs.get ch
    let (rho, alpha) := s.densityFor ch row
    let ns := massProduct ds row.supplyPulse rho alpha rep.supplyTemp r.supplyRem
    let m := ns / massUnit
    let s1 := s.putChan ch { r with supplyRem := ns % massUnit }
    match s.meteredBy ch with
    | some _ => s1.takeMass ds m
    | none => s1.unassigned ch m

/-- The channel whose loaded row names a meter node. -/
def State.chanOf (s : State) (node : Nat) : Option (Fin 8) :=
  (indices 8).find? (fun ch => match s.fuel.channels.get ch with
    | some row => row.node == node
    | none => false)

/-- R133: the record of a channel after the baselines of a reading have moved. -/
def ChanRec.rebased (r : ChanRec) (row : ChanRow) (rep : MeterReport) (arrival : Nat) : ChanRec :=
  { r with
    prevSupply := some rep.supply
    prevReturn := if row.kind = .engine then some rep.return_ else r.prevReturn
    lastReading := some arrival
    timer := some (arrival + row.timeout) }

/-- METER_READING taken (R133): a first reading sets the baselines and accounts nothing (assumption log 21). -/
def State.takeReading (q : Received) (s : State) : State :=
  match s.chanOf q.frame.id.source.toNat with
  | none => s
  | some ch =>
    match s.fuel.channels.get ch with
    | none => s
    | some row =>
      let rep := meterReport q.frame.data
      let r := s.fuel.recs.get ch
      let s1 := s.putChan ch (r.rebased row rep q.arrival)
      match row.kind, r.prevSupply, r.prevReturn with
      | .engine, some ps, some pr => s1.engineReading ch row rep (pulses rep.supply ps) (pulses rep.return_ pr)
      | .transfer, some ps, _ => s1.transferReading ch row rep (pulses rep.supply ps)
      | _, _, _ => s1

/-- R140: the meter timer of a channel expires. -/
def State.meterExpires (ch : Fin 8) (s : State) : State :=
  match s.fuel.channels.get ch with
  | none => s
  | some _ =>
    let r := s.fuel.recs.get ch
    if isDue r.timer s.now then
      ((s.putChan ch { r with lost := bump r.lost, timer := none }).raise .meterLost (some ch.val)).loseMeter ch
    else s

end Sys2Proof.Machine
end

