-- ==== Sys2Proof/Machine/Summaries.lean ====
section
/-!
DEFINITION. The summaries and COMMAND_STATE (R45, R74, R107, R127, R169, 11.5): their bytes, their queueing as an event ends,
and their periods.
-/

namespace Sys2Proof.Machine

/-! ## LANE_SUMMARY (R169) -/

/-- The code of a lane's state and phase. -/
def LaneState.code : LaneState → Nat
  | .unsynced => 0
  | .stopped => 1
  | .neutral => 2
  | .engaging => 3
  | .ahead => 4
  | .astern => 5
  | .rampdown => 6
  | .declutch => 7
  | .fault => 8

/-- The code of a lane fault cause: 0 for absent, 1 to 5 in the order of R55. -/
def laneCauseCode : Option LaneCause → Nat
  | none => 0
  | some .engageTimeout => 1
  | some .disengageTimeout => 2
  | some .gearMismatch => 3
  | some .statusLost => 4
  | some .localControl => 5

/-- The code of a refusal reason in a LANE_SUMMARY; MISMATCH names no lane (R38) and has none. -/
def Reason.laneCode : Reason → Nat
  | .laneFault => 1
  | .notRunning => 2
  | .releaseInProgress => 3
  | .uncoupled => 4
  | .kickReversal => 5
  | .notInCommand => 6
  | .noRight => 7
  | .laidUp => 8
  | .mismatch => 0

/-- R35: the reason of the last refusal record when it names the lane. -/
def State.laneReason (s : State) (l : Fin 4) : Nat :=
  match s.intake.lastRefusal with
  | some r => if r.object = .lane l then r.reason.laneCode else 0
  | none => 0

/-- The alarm bit of a summary (assumption log 10). -/
def alarmBit (alarm : Option Bool) : Bool := alarm.getD Config.absentAlarmBit

/-- Frame 0 of a LANE_SUMMARY (R169). A bit to which R169 gives no meaning is sent as 0 (assumption log 41). -/
def State.laneFrame0 (s : State) (l : Fin 4) (row : LaneRow) : List Byte :=
  let r := s.lane l
  [byte l.val, byte r.state.code, byte r.targetDir.code] ++ be16 r.targetSpeed ++ be16 r.setpoint
    ++ [byte (s.effCeiling l row / 200)]

/-- Frame 1 of a LANE_SUMMARY (R169). A bit to which R169 gives no meaning is sent as 0 (assumption log 41). -/
def State.laneFrame1 (s : State) (l : Fin 4) (row : LaneRow) : List Byte :=
  let r := s.lane l
  let c := s.lanes.ceils.get l
  let flags := bitVal c.mgmtCap.isSome 0 + bitVal c.tension.isSome 1 + bitVal c.fuelReserve.isSome 2
    + bitVal c.commandLoss.isSome 3 + bitVal r.inStep 4 + bitVal r.crash 5 + bitVal (alarmBit r.alarm) 6
  [byte (l.val + 128), byte flags, byte (laneCauseCode r.cause)] ++ be16 (r.speed.getD 65535)
    ++ [byte (s.laneReason l)] ++ be16 (s.effCeiling l row)

/-- The two frames of a lane's summary queued together on B, its 1,000 ms counted afresh; nothing for an empty row
(R74). -/
def State.laneSummary (l : Fin 4) (s : State) : State :=
  match s.lanes.rows.get l with
  | none => s
  | some row =>
    let recs := s.lanes.recs.modify l (fun r => { r with summaryAt := s.now + 1000 })
    let s1 := { s with lanes := { s.lanes with recs := recs } }
    s1.originateAll .B [s.frameOf .laneSummary 0 (s.laneFrame0 l row), s.frameOf .laneSummary 0 (s.laneFrame1 l row)]

/-! ## HELM_SUMMARY (R107, 11.5) -/

/-- The code of an actuator's state. -/
def ActState.code : ActState → Nat
  | .unsynced => 0
  | .tracking => 1
  | .unreachable => 2
  | .fault => 3

/-- The code of a bank, which is also its detail. -/
def Bank.code : Bank → Nat
  | .A => 0
  | .B => 1

/-- The number of loaded actuators in a state; an empty row is counted in none (the model's choice: assumption log 52). -/
def State.actCount (s : State) (st : ActState) : Nat :=
  ((indices 8).filter (fun a => (s.steering.rows.get a).isSome && (s.steering.recs.get a).state == st)).length

/-- The helm frame. -/
def State.helmFrame (s : State) : List Byte :=
  [255#8] ++ beInt16 s.steering.helm
    ++ [byte (s.steering.active.code + bitVal s.steering.complete 1), byte (s.actCount .unsynced),
        byte (s.actCount .tracking), byte (s.actCount .unreachable), byte (s.actCount .fault)]

/-- The frame of one actuator. -/
def State.actFrame (s : State) (a : Fin 8) : List Byte :=
  let r := s.steering.recs.get a
  let head := r.state.code + 4 * r.column.code + bitVal (alarmBit r.alarm) 4 + bitVal r.position.isSome 5
  [byte a.val, byte head] ++ beInt16 r.target ++ beInt16 r.commanded ++ beInt16 (r.position.getD 0)

/-- The helm summary queued on B: the helm frame and one frame for each loaded actuator, together. -/
def State.helmSummary (s : State) : State :=
  let acts := (indices 8).filter (fun a => (s.steering.rows.get a).isSome)
  let s1 := { s with steering := { s.steering with summaryAt := s.now + 1000 } }
  s1.originateAll .B (s.frameOf .helmSummary 0 s.helmFrame :: acts.map (fun a => s.frameOf .helmSummary 0 (s.actFrame a)))

/-! ## COUPLING_SUMMARY (R127, 11.5) -/

/-- The code of a coupling's state. -/
def CoupState.code : CoupState → Nat
  | .unsynced => 0
  | .released => 1
  | .slacked => 2
  | .makingUp => 3
  | .madeFast => 4
  | .easing => 5
  | .releasing => 6
  | .lost => 7
  | .fault => 8

/-- The code of a coupling fault cause: 0 for absent. -/
def coupCauseCode : Option CoupCause → Nat
  | none => 0
  | some .makeUpTimeout => 1
  | some .easeTimeout => 2
  | some .releaseTimeout => 3
  | some .statusLost => 4
  | some .winchFault => 5

/-- The code of a coupling's refusal reason. -/
def CoupReason.code : CoupReason → Nat
  | .range => 1
  | .badState => 2
  | .locked => 3
  | .noPermit => 4
  | .notSlack => 5
  | .propulsionActive => 6
  | .hoseInUse => 7

/-- The frame of a COUPLING_SUMMARY. -/
def coupFrame (c : Fin 32) (r : CoupRec) : List Byte :=
  let told := r.tension.isSome
  let drum := if told then (r.drum.map Drum.code).getD 0 else 0
  let hook := told && r.hookOpen.getD false
  let head := drum + bitVal hook 2 + bitVal r.lock 3 + bitVal r.overload 4
  [byte c.val, byte r.state.code] ++ be16 (r.tension.getD 65535)
    ++ [byte head, byte (coupCauseCode r.cause), byte ((r.refusal.map (fun x => x.reason.code)).getD 0), 0#8]

/-- A coupling's summary queued on B; nothing for an empty row. -/
def State.coupSummary (c : Fin 32) (s : State) : State :=
  match s.couplings.rows.get c with
  | none => s
  | some _ =>
    let recs := s.couplings.recs.modify c (fun r => { r with summaryAt := s.now + 1000 })
    let s1 := { s with couplings := { s.couplings with recs := recs } }
    s1.originate .B .couplingSummary 0 (coupFrame c (s.couplings.recs.get c))

/-! ## COMMAND_STATE (R45, 11.5) -/

/-- The code of a loss state. -/
def Loss.code : Loss → Nat
  | .attended => 0
  | .holding _ => 1
  | .lost => 2

/-- The code of a take result. -/
def TakeResult.code : TakeResult → Nat
  | .accepted => 1
  | .renewal => 2
  | .noRight => 3
  | .mismatch => 4

/-- The node of the station in command of a job, 0 for none. -/
def State.commandNode (s : State) (j : Job) : Nat :=
  match (s.job j).station with
  | some i => ((s.intake.stations.get i).map (·.node)).getD 0
  | none => 0

/-- The data of COMMAND_STATE; the job byte of "no take" is free (assumption log 10). -/
def State.commandFrame (s : State) : List Byte :=
  let take := s.intake.lastTake
  [byte (s.commandNode .prop), byte s.intake.prop.loss.code, byte (s.commandNode .steer), byte s.intake.steer.loss.code,
   byte ((take.map (·.source)).getD 0), (take.map (fun x => byte (jobCode x.job))).getD Config.noTakeJobByte,
   byte ((take.map (fun x => x.result.code)).getD 0)]

/-- COMMAND_STATE queued on B, its 1,000 ms counted afresh. -/
def State.commandState (s : State) : State :=
  ({ s with intake := { s.intake with stateAt := s.now + 1000 } }).originate .B .commandState 0 s.commandFrame

/-! ## The end of an event (assumption log 12) -/

/-- The summaries an event has given cause for, queued as the event ends, each once: lanes, helm, couplings,
COMMAND_STATE. -/
def State.flush (s : State) : State :=
  let d := s.due
  let s1 := { s with due := Due.none }
  let s2 := forAll 4 (fun l s => if d.lanes.get l then s.laneSummary l else s) s1
  let s3 := if d.helm then s2.helmSummary else s2
  let s4 := forAll 32 (fun c s => if d.couplings.get c then s.coupSummary c else s) s3
  if d.command then s4.commandState else s4

/-! ## Periods -/

/-- R74: 1,000 ms have passed since the lane's last summary. -/
def State.laneSummaryDue (l : Fin 4) (s : State) : State := if (s.lane l).summaryAt ≤ s.now then s.dueLane l else s

/-- R107: 1,000 ms have passed since the last helm summary. -/
def State.helmSummaryDue (s : State) : State := if s.steering.summaryAt ≤ s.now then s.dueHelm else s

/-- R127: 1,000 ms have passed since the coupling's last summary. -/
def State.coupSummaryDue (c : Fin 32) (s : State) : State :=
  if (s.couplings.recs.get c).summaryAt ≤ s.now then s.dueCoupling c else s

/-- R45: 1,000 ms have passed since the last COMMAND_STATE. -/
def State.commandStateDue (s : State) : State := if s.intake.stateAt ≤ s.now then s.dueCommand else s

end Sys2Proof.Machine
end

