-- ==== Sys2Proof/Machine/Tables.lean ====
section
/-!
DEFINITION. Table requests: LOAD_ROW, CLEAR_TABLE and READ_ROW of the ten tables, and the bank requests. Each takes the whole
message `m` (byte 0 is the request code) and answers with the state after it, the result and the reply body. The tests of
length, table number and mode (R159, R162) are made before these.
-/

namespace Sys2Proof.Machine

/-- What a request answers: the state after it, the result, the body of the reply. -/
structure Answer where
  state  : State
  result : Result
  body   : List Byte

/-- DONE, with the 2-byte head alone. -/
def State.done (s : State) : Answer := ⟨s, .done, []⟩

/-- DONE, with a body whose layout no chapter tables (assumption log 7). -/
def State.tells (s : State) (layout : Nat) (fields : List (Option Int)) : Answer :=
  ⟨s, .done, (Config.replyBody layout fields).take 62⟩

/-- A refusal: no state changed (R159). -/
def State.refuses (s : State) (r : Result) : Answer := ⟨s, r, []⟩

/-! ## Fields of a reply -/

/-- A number. -/
def fNat (n : Nat) : Option Int := some (n : Int)

/-- A signed number. -/
def fInt (n : Int) : Option Int := some n

/-- An optional number. -/
def fOpt (n : Option Nat) : Option Int := n.map (fun v => (v : Int))

/-- A flag. -/
def fBool (b : Bool) : Option Int := some (if b then 1 else 0)

/-- The code of a row's port (11.6). -/
def fPort (p : Port) : Option Int := fNat (portCode p)

/-! ## Uniqueness -/

/-- No loaded row but the one at `i` meets a test. -/
def noOther {n : Nat} {α : Type} (rows : Tab n (Option α)) (i : Fin n) (clash : α → Bool) : Bool :=
  (indices n).all (fun j => j == i || !(rows.get j).any clash)

/-! ## Route table (R19, R20) -/

/-- Two entries have the same key. -/
def RouteEntry.sameKey (a b : RouteEntry) : Bool := a.kind == b.kind && a.source == b.source

/-- A key as one number: kinds ascending, within a kind the sources ascending and ANY after them. -/
def RouteEntry.key (e : RouteEntry) : Nat := e.kind * 256 + e.source.getD 255

/-- An entry put at its place in key order, in place of an entry of its key. -/
def insertRoute (e : RouteEntry) : List RouteEntry → List RouteEntry
  | [] => [e]
  | x :: xs =>
    if e.key < x.key then e :: x :: xs
    else if e.key = x.key then e :: xs
    else x :: insertRoute e xs

/-- The route table holds at most 128 entries. -/
def routesMax : Nat := 128

/-- The state with the route table replaced. -/
def State.setRoutes (es : List RouteEntry) (s : State) : State := { s with switch := { s.switch with routes := es } }

/-- LOAD_ROW of the route table (R19). -/
def State.loadRoute (m : List Byte) (s : State) : Answer :=
  match routeEntryOf s.node m with
  | none => s.refuses .range
  | some e =>
    if s.switch.routes.any (e.sameKey) || decide (s.switch.routes.length < routesMax) then
      (s.setRoutes (insertRoute e s.switch.routes)).done
    else s.refuses .range

/-- CLEAR_TABLE of the route table (R20). -/
def State.clearRoutes (_m : List Byte) (s : State) : Answer := (s.setRoutes []).done

/-- A forward set as its three bits. -/
def PortSet.code (f : PortSet) : Nat := bitVal f.B 0 + bitVal f.M 1 + bitVal f.T 2

/-- READ_ROW of the route table (R20). -/
def State.readRoute (m : List Byte) (s : State) : Answer :=
  match s.switch.routes[u8 m 2]? with
  | none => s.refuses .range
  | some e => s.tells (0x11 * 256)
      [fNat e.kind, fOpt e.source, fNat e.forward.code, fBool e.deliver, fOpt e.rewrite, fOpt e.interval, fNat e.hits,
       fBool e.lastForward.isSome]

/-! ## Station table and timing row (R32, R33) -/

/-- The row at a place is the station in command of a job (R32). -/
def State.inCommand (s : State) (i : Fin 4) : Bool :=
  s.intake.prop.station == some i || s.intake.steer.station == some i

/-- LOAD_ROW of the station table, index 0 to 3 (R32). An index above 4 is refused RANGE, and RANGE is tested before
ROW_IN_USE (the model's choices: assumption logs 34 and 53). -/
def State.loadStation (m : List Byte) (s : State) : Answer :=
  match idx 4 (u8 m 2), stationRowOf s.node m with
  | some i, some row =>
    if noOther s.intake.stations i (fun r => r.node == row.node) = false then s.refuses .range
    else if s.inCommand i then s.refuses .rowInUse
    else State.done { s with intake := { s.intake with
        stations := s.intake.stations.set i (some row), refusals := s.intake.refusals.set i 0 } }
  | _, _ => s.refuses .range

/-- LOAD_ROW of the timing row (R33): a timer whose moment has passed under the new row expires as the load is taken.
Where timers of both jobs do, PROP is taken before STEER (the model's choice: assumption log 55). -/
def State.loadTiming (m : List Byte) (s : State) : Answer :=
  if within 500 10000 (u16 m 3) && within 0 30000 (u16 m 5) then
    let s1 := { s with intake := { s.intake with demandTimeout := u16 m 3, holdTime := u16 m 5 } }
    ((((s1.timeoutExpires .prop).timeoutExpires .steer).holdExpires .prop).holdExpires .steer).done
  else s.refuses .range

/-- CLEAR_TABLE of the station table (R32, R33). -/
def State.clearStations (_m : List Byte) (s : State) : Answer :=
  if s.intake.prop.station.isSome || s.intake.steer.station.isSome then s.refuses .rowInUse
  else State.done { s with intake := { s.intake with stations := Tab.fill 4 none, refusals := Tab.fill 4 0 } }

/-- READ_ROW of the station table: a row with its refusal count, or the timing row at index 4. -/
def State.readStation (m : List Byte) (s : State) : Answer :=
  match idx 4 (u8 m 2) with
  | some i => match s.intake.stations.get i with
    | none => s.tells (0x11 * 256 + 1) []
    | some r => s.tells (0x11 * 256 + 1)
        [fNat r.node, fBool r.prop, fBool r.steer, fBool r.couple, fBool r.override, fNat r.speedTol, fNat r.helmTol,
         fNat (s.intake.refusals.get i)]
  | none =>
    if u8 m 2 = 4 then s.tells (0x11 * 256 + 1) [fNat s.intake.demandTimeout, fNat s.intake.holdTime]
    else s.refuses .range

/-! ## Lane table (R48, R49, R77, R81, R132) -/

/-- R48, R81, R132: a loaded row clashes with a new row of another lane: same engine node, same meter channel, or the same
home step group with another idle speed. -/
def LaneRow.clashes (row other : LaneRow) : Bool :=
  other.node == row.node || other.channel == row.channel
    || (row.home.isSome && other.home == row.home && other.idle != row.idle)

/-- R77, R141: the tank is FEED and at reserve. -/
def State.feedAtReserve (s : State) (k : Fin 16) : Bool :=
  (match s.fuel.tanks.get k with
   | some t => t.kind == .feed
   | none => false) && (s.acct k).atReserve

/-- R77: the kept ceiling record of a lane brought into line with its new row. -/
def State.alignCeilings (s : State) (row : LaneRow) (c : Ceilings) : Ceilings where
  mgmtCap := c.mgmtCap.map (fun v => max v row.idle)
  tension := s.tensionEntry row.boat
  fuelReserve := if s.feedAtReserve row.feedTank then some row.reserveCap else none
  commandLoss := if s.intake.prop.loss = .lost then some row.idle else none

/-- LOAD_ROW of the lane table (R48, R77, R100); RANGE is tested before BAD_STATE (assumption log 53). -/
def State.loadLane (m : List Byte) (s : State) : Answer :=
  match idx 4 (u8 m 2), laneRowOf s.node m with
  | some l, some row =>
    if noOther s.lanes.rows l row.clashes = false then s.refuses .range
    else if (s.lane l).state.loadable = false then s.refuses .badState
    else
      let s1 := { s with lanes := { s.lanes with rows := s.lanes.rows.set l (some row) } }
      let s2 := ((s1.putLane l (LaneRec.reset (s1.lane l).summaryAt)).dueLane l).evaluateLane l
      (s2.putCeilings l (s2.alignCeilings row (s2.lanes.ceils.get l))).done
  | _, _ => s.refuses .range

/-- CLEAR_TABLE of the lane table (R49, R75, R100). -/
def State.clearLanes (_m : List Byte) (s : State) : Answer :=
  if (indices 4).any (fun l => (s.lanes.rows.get l).isSome && !(s.lane l).state.loadable) then s.refuses .badState
  else
    let s1 := { s with lanes := { s.lanes with rows := Tab.fill 4 none, ceils := Tab.fill 4 Ceilings.empty } }
    (forAll 4 (fun l s => s.putLane l (LaneRec.reset (s.lane l).summaryAt)) s1).evaluateAll.done

/-- READ_ROW of the lane table (R49). -/
def State.readLane (m : List Byte) (s : State) : Answer :=
  match idx 4 (u8 m 2) with
  | none => s.refuses .range
  | some l => match s.lanes.rows.get l with
    | none => s.tells (0x11 * 256 + 2) []
    | some r => s.tells (0x11 * 256 + 2)
        [fNat r.node, fPort r.port, fBool (r.boat == .assist), fNat r.feedTank.val, fNat r.channel.val,
         fOpt (r.home.map (·.val)), fNat r.idle, fNat r.maxAhead, fNat r.maxAstern, fNat r.reserveCap, fNat r.rampUp,
         fNat r.rampDown, fNat r.crashRampDown, fNat r.clutchTimeout, fNat r.neutralTimeout, fNat r.reversalDwell,
         fNat r.crashDwell, fNat r.crashSpeed, fNat r.refresh, fNat r.statusTimeout, fNat (s.lane l).state.code]

/-! ## Group table (R81) -/

/-- LOAD_ROW of the group table (R81): a hold timer whose moment has passed expires as the load is taken. -/
def State.loadGroup (m : List Byte) (s : State) : Answer :=
  match idx 2 (u8 m 2), groupRowOf m with
  | some g, some row =>
    (({ s with groups := { s.groups with rows := s.groups.rows.set g (some row) } }).groupHold g).done
  | _, _ => s.refuses .range

/-- CLEAR_TABLE of the group table (R81). -/
def State.clearGroups (_m : List Byte) (s : State) : Answer :=
  if (indices 2).any (fun g => !(s.members g).isEmpty) then s.refuses .badState
  else State.done { s with groups := { s.groups with rows := Tab.fill 2 none } }

/-- READ_ROW of the group table (R81). -/
def State.readGroup (m : List Byte) (s : State) : Answer :=
  match idx 2 (u8 m 2) with
  | none => s.refuses .range
  | some g => match s.groups.rows.get g with
    | none => s.tells (0x11 * 256 + 3) []
    | some r => s.tells (0x11 * 256 + 3) [fNat r.tolerance, fNat r.holdLimit]

/-! ## Actuator table (R92, R93) -/

/-- LOAD_ROW of the actuator table (R92, R94); RANGE is tested before BAD_STATE (assumption log 53). -/
def State.loadActuator (m : List Byte) (s : State) : Answer :=
  match idx 8 (u8 m 2), actRowOf s.node m with
  | some a, some row =>
    if noOther s.steering.rows a (fun r => r.node == row.node) = false then s.refuses .range
    else if (s.steering.recs.get a).state = .tracking then s.refuses .badState
    else
      let s1 := { s with steering := { s.steering with rows := s.steering.rows.set a (some row) } }
      let s2 := (s1.putAct a ActRec.reset).dueHelm
      (if s.mgmt.mode = .coordinating then s2.startActTimer a else s2).done
  | _, _ => s.refuses .range

/-- CLEAR_TABLE of the actuator table (R93). -/
def State.clearActuators (_m : List Byte) (s : State) : Answer :=
  if (indices 8).any (fun a => (s.steering.recs.get a).state == .tracking) then s.refuses .badState
  else
    let steering := { s.steering with rows := Tab.fill 8 none, recs := Tab.fill 8 ActRec.reset }
    (State.dueHelm { s with steering := steering }).done

/-- The code of an actuator's kind (11.6). -/
def ActKind.code : ActKind → Nat
  | .mainRudder => 0
  | .flankingRudder => 1
  | .thruster => 2

/-- READ_ROW of the actuator table (R93). -/
def State.readActuator (m : List Byte) (s : State) : Answer :=
  match idx 8 (u8 m 2) with
  | none => s.refuses .range
  | some a => match s.steering.rows.get a with
    | none => s.tells (0x11 * 256 + 4) []
    | some r => s.tells (0x11 * 256 + 4)
        ([fNat r.node, fPort r.port, fNat r.kind.code, fNat r.lane.val, fNat r.fullScale, fNat r.limit, fNat r.rate,
          fNat r.path.length] ++ r.path.map (fun c => fNat c.val)
          ++ [fNat r.refresh, fNat r.statusTimeout, fNat (s.steering.recs.get a).state.code,
              fInt (s.steering.recs.get a).commanded])

/-! ## Banks (R95 to R98) -/

/-- The bank a table number names: 5 A, 6 B. -/
def bankOf (m : List Byte) : Bank := if u8 m 1 = 5 then .A else .B

/-- LOAD_ROW of a bank (R95); ROW_IN_USE is tested before RANGE (assumption log 53). -/
def State.loadBank (m : List Byte) (s : State) : Answer :=
  let b := bankOf m
  if b = s.steering.active then s.refuses .rowInUse
  else match idx 8 (u8 m 2), gainsOf m with
    | some a, some g =>
      let st := s.steering.setBank b ((s.steering.bank b).set a (some g))
      State.done { s with steering := { st with complete := false } }
    | _, _ => s.refuses .range

/-- CLEAR_TABLE of a bank (R98). -/
def State.clearBank (m : List Byte) (s : State) : Answer :=
  let b := bankOf m
  if b = s.steering.active then s.refuses .rowInUse
  else State.done { s with steering := { s.steering.setBank b (Tab.fill 8 none) with complete := false } }

/-- READ_ROW of a bank (R98). -/
def State.readBank (m : List Byte) (s : State) : Answer :=
  let b := bankOf m
  let standing := [fBool (b == s.steering.active),
    if b = s.steering.active then none else fBool s.steering.complete]
  match idx 8 (u8 m 2) with
  | none => s.refuses .range
  | some a => match (s.steering.bank b).get a with
    | none => s.tells (0x11 * 256 + u8 m 1) standing
    | some g => s.tells (0x11 * 256 + u8 m 1) ([fInt g.ahead, fInt g.astern, fInt g.neutral] ++ standing)

/-- The rows of the standby bank. -/
def State.standby (s : State) : Tab 8 (Option Gains) := s.steering.bank s.steering.active.other

/-- R96, R97: every index whose actuator row is loaded has a row in the standby bank. -/
def State.standbyCovers (s : State) : Bool :=
  (indices 8).all (fun a => !(s.steering.rows.get a).isSome || (s.standby.get a).isSome)

/-- R96: the number of places of the standby bank that hold a row. -/
def State.standbyCount (s : State) : Nat := ((indices 8).filter (fun a => (s.standby.get a).isSome)).length

/-- CLOSE_BANK (R96). -/
def State.closeBank (m : List Byte) (s : State) : Answer :=
  let whole := decide (s.standbyCount = u8 m 1) && s.standbyCovers
  let s1 := { s with steering := { s.steering with complete := whole } }
  if whole then s1.done else s1.refuses .incompleteBank

/-- SWAP_BANK (R97). -/
def State.swapBank (_m : List Byte) (s : State) : Answer :=
  if s.steering.complete && s.standbyCovers then
    let b := s.steering.active.other
    let s1 := { s with steering := { s.steering with active := b, complete := false } }
    ((s1.evaluateAll.raise .bankSwapped (some b.code)).dueHelm).done
  else s.refuses .incompleteBank

/-! ## Coupling table (R108, R109) -/

/-- LOAD_ROW of the coupling table (R108, R125); RANGE is tested before BAD_STATE, MAIN is posted before ASSIST, and reach is
tested before the lanes (the model's choices: assumption logs 53, 57 and 64). -/
def State.loadCoupling (m : List Byte) (s : State) : Answer :=
  match idx 32 (u8 m 2), coupRowOf s.node m with
  | some c, some row =>
    if noOther s.couplings.rows c (fun r => r.node == row.node) = false then s.refuses .range
    else if (s.couplings.recs.get c).state.loadable = false then s.refuses .badState
    else
      let s1 := { s with couplings := { s.couplings with rows := s.couplings.rows.set c (some row) } }
      let s2 := (s1.putCoup c (CoupRec.reset (s.couplings.recs.get c).summaryAt)).dueCoupling c
      let s3 := (s2.postTension .main).postTension .assist
      ((s3.retestReachOf c).retestAssist s.assistCoupled c).done
  | _, _ => s.refuses .range

/-- CLEAR_TABLE of the coupling table (R109, R125). No loaded coupling is MADE_FAST then, so the ASSIST boat was not
coupled and no hose was fast: the other two readers of R125 find no change. MAIN is posted before ASSIST, and actuators
are tested in ascending index (the model's choices: assumption logs 57 and 58). -/
def State.clearCouplings (_m : List Byte) (s : State) : Answer :=
  let bad (c : Fin 32) : Bool := (s.couplings.rows.get c).isSome && !(s.couplings.recs.get c).state.loadable
  if (indices 32).any bad then s.refuses .badState
  else
    let recs := s.couplings.recs.map (fun r => CoupRec.reset r.summaryAt)
    let s1 := { s with couplings := { s.couplings with rows := Tab.fill 32 none, recs := recs } }
    (forAll 8 State.retestReach ((s1.postTension .main).postTension .assist)).done

/-- The code of a coupling's kind (11.6). -/
def CoupKind.code : CoupKind → Nat
  | .face => 0
  | .tier => 1
  | .breast => 2
  | .assist => 3

/-- The code of what a coupling bears (11.6). -/
def bearsCode : Option Boat → Nat
  | some .main => 0
  | some .assist => 1
  | none => 2

/-- The code of a coupling order (11.2). -/
def CoupOrder.code : CoupOrder → Nat
  | .makeUp => 0
  | .ease => 1
  | .release => 2
  | .lock => 3
  | .unlock => 4
  | .lockAll => 5
  | .unlockAll => 6
  | .permit => 7

/-- READ_ROW of the coupling table (R109). -/
def State.readCoupling (m : List Byte) (s : State) : Answer :=
  match idx 32 (u8 m 2) with
  | none => s.refuses .range
  | some c => match s.couplings.rows.get c with
    | none => s.tells (0x11 * 256 + 7) []
    | some r =>
      let k := s.couplings.recs.get c
      s.tells (0x11 * 256 + 7)
        [fNat r.node, fPort r.port, fNat r.kind.code, fNat (bearsCode r.bears), fNat r.makeUpTarget, fNat r.makeUpBand,
         fNat r.soft, fNat r.hard, fNat r.floor, fNat r.slackLimit, fNat r.slackTime, fNat r.makeUpTimeout,
         fNat r.easeTimeout, fNat r.releaseTimeout, fNat r.statusTimeout, fNat k.state.code, fBool k.lock,
         fOpt (k.refusal.map (·.source)), fOpt (k.refusal.map (·.order.code)), fOpt (k.refusal.map (·.reason.code))]

/-! ## Tank table (R128, R129) -/

/-- LOAD_ROW of the tank table (R128): of a defined tank it is a redefinition, evaluated under R141; a FEED tank that
becomes another kind leaves the reserve behind. RANGE is tested before TRANSFER_ACTIVE (assumption log 53). -/
def State.loadTank (m : List Byte) (s : State) : Answer :=
  match idx 16 (u8 m 2), tankRowOf m with
  | some k, some row =>
    if s.tankBusy k then s.refuses .transferActive
    else
      let wasFeed := (s.fuel.tanks.get k).any (fun t => t.kind == .feed)
      let s1 := { s with fuel := { s.fuel with tanks := s.fuel.tanks.set k (some row) } }
      (if wasFeed && row.kind != .feed then s1.clearReserve k else s1.evalReserve k).done
  | _, _ => s.refuses .range

/-- CLEAR_TABLE of the tank table (R129, R154). -/
def State.clearTanks (_m : List Byte) (s : State) : Answer :=
  if s.slotsOccupied then s.refuses .transferActive
  else
    let fuel := { s.fuel with tanks := Tab.fill 16 none, accts := Tab.fill 16 TankAcct.reset }
    let s1 := { s with fuel := fuel, transfers := { s.transfers with soundings := Tab.fill 16 none } }
    (s1.postCeilings (fun _ => true) (fun _ c => { c with fuelReserve := none })).done

/-- The code of a tank's kind (11.6). -/
def TankKind.code : TankKind → Nat
  | .storage => 0
  | .feed => 1
  | .barge => 2

/-- The fields of a tank definition; none for an empty row. -/
def tankFields : Option TankRow → List (Option Int)
  | none => []
  | some r => [fNat r.kind.code, fNat r.capacity, fNat r.reserve, fNat r.hysteresis, fNat r.fullMargin, fNat r.density,
      fNat r.alpha, fOpt (r.hose.map (·.val))]

/-- READ_ROW of the tank table (R129). -/
def State.readTankRow (m : List Byte) (s : State) : Answer :=
  match idx 16 (u8 m 2) with
  | none => s.refuses .range
  | some k => s.tells (0x11 * 256 + 8) (tankFields (s.fuel.tanks.get k))

/-! ## Meter channel table (R132) -/

/-- LOAD_ROW of the meter channel table (R132, R140); RANGE is tested before TRANSFER_ACTIVE (assumption log 53). -/
def State.loadChannel (m : List Byte) (s : State) : Answer :=
  match idx 8 (u8 m 2), chanRowOf s.node m with
  | some ch, some row =>
    if noOther s.fuel.channels ch (fun r => r.node == row.node) = false then s.refuses .range
    else if s.channelBusy ch then s.refuses .transferActive
    else
      let s1 := { s with fuel := { s.fuel with channels := s.fuel.channels.set ch (some row) } }
      (s1.putChan ch { ChanRec.reset with timer := some (s.now + row.timeout) }).done
  | _, _ => s.refuses .range

/-- CLEAR_TABLE of the meter channel table (R132). -/
def State.clearChannels (_m : List Byte) (s : State) : Answer :=
  if s.slotsOccupied then s.refuses .transferActive
  else State.done { s with fuel := { s.fuel with channels := Tab.fill 8 none, recs := Tab.fill 8 ChanRec.reset } }

/-- READ_ROW of the meter channel table (R132): the row and the whole record. -/
def State.readChannel (m : List Byte) (s : State) : Answer :=
  match idx 8 (u8 m 2) with
  | none => s.refuses .range
  | some ch => match s.fuel.channels.get ch with
    | none => s.tells (0x11 * 256 + 9) []
    | some r =>
      let k := s.fuel.recs.get ch
      s.tells (0x11 * 256 + 9)
        [fNat r.node, fBool (r.kind == .transfer), fNat r.supplyPulse, fOpt r.returnPulse, fNat r.cap, fNat r.timeout,
         fNat r.density, fOpt k.prevSupply, fOpt k.prevReturn, fNat k.supplyRem, fNat k.returnRem, fOpt k.lastReading,
         fNat k.implausible, fNat k.lost, fNat k.unassigned, fInt k.unassignedMass]

/-! ## READ_ROW by table -/

/-- READ_ROW (R159): the table's own read. -/
def State.readRow (m : List Byte) (s : State) : Answer :=
  match u8 m 1 with
  | 0 => s.readRoute m
  | 1 => s.readStation m
  | 2 => s.readLane m
  | 3 => s.readGroup m
  | 4 => s.readActuator m
  | 5 | 6 => s.readBank m
  | 7 => s.readCoupling m
  | 8 => s.readTankRow m
  | _ => s.readChannel m

end Sys2Proof.Machine
end

