-- ==== Sys2Proof/Machine/Requests.lean ====
section
/-!
DEFINITION. The requests that are not about tables: identity and status (R160), modes (R161), SET_CAP (R77), tanks (R130,
R156), transfers (R143, R144, R152, R153), soundings and reconciliation (R154, R155), events (R164) and counters (R30).
-/

namespace Sys2Proof.Machine

/-! ## Identity, counters, status (R160) -/

/-- The code of a device mode (11.2). -/
def Mode.code : Mode → Nat
  | .passThrough => 0
  | .coordinating => 1
  | .laidUp => 2

/-- IDENTIFY (R160): vendor 0E41h, part 0264h, revision 02h, node number, device mode (11.6). -/
def State.identify (_m : List Byte) (s : State) : Answer :=
  ⟨s, .done, [0x0E#8, 0x41#8, 0x02#8, 0x64#8, 0x02#8, byte s.node, byte s.mgmt.mode.code]⟩

/-- A port by its code (11.6). -/
def portOfCode : Nat → Option Port
  | 0 => some .B
  | 1 => some .M
  | 2 => some .T
  | _ => none

/-- READ_COUNTERS (R30, R160): the seven counters of a port and the unrouted counter. -/
def State.readCounters (m : List Byte) (s : State) : Answer :=
  match portOfCode (u8 m 1) with
  | none => s.refuses .range
  | some p =>
    let c := s.port p
    s.tells (0x43 * 256) [fNat c.received, fNat c.forwarded, fNat c.originated, fNat c.ingressOverflow,
      fNat c.egressDropped, fNat c.controlOverflow, fNat c.malformed, fNat s.switch.unrouted]

/-- The number of event flags set. -/
def State.flagsSet (s : State) : Nat := ((indices 27).filter (fun i => (s.mgmt.flags.get i).isSet)).length

/-- The code of a refusal reason of R35, in the order of its list. -/
def Reason.code : Reason → Nat
  | .notInCommand => 1
  | .noRight => 2
  | .mismatch => 3
  | .laidUp => 4
  | .notRunning => 5
  | .laneFault => 6
  | .uncoupled => 7
  | .releaseInProgress => 8
  | .kickReversal => 9

/-- The object of a refusal as two fields: what it is, and its index. -/
def Object.fields : Object → List (Option Int)
  | .lane l => [fNat 1, fNat l.val]
  | .group g => [fNat 2, fNat g.val]
  | .helm => [fNat 3, Option.none]
  | .coupling c => [fNat 4, fNat c.val]
  | .job j => [fNat 5, fNat (jobCode j)]
  | .none => [Option.none, Option.none]

/-- READ_STATUS, section 0. -/
def State.statusDevice (s : State) : List (Option Int) :=
  [fNat s.mgmt.mode.code, fNat s.node, fOpt (s.mgmt.arming.map (·.source)),
   fOpt (s.mgmt.arming.map (fun a => a.expiry - s.now)), fNat s.flagsSet]

/-- A job in READ_STATUS, section 1. -/
def State.statusJob (s : State) (j : Job) : List (Option Int) :=
  [fOpt (((s.job j).station.bind (fun i => s.intake.stations.get i)).map (·.node)), fNat (s.job j).loss.code,
   fOpt ((s.job j).lastHeard.map (fun h => s.now - h))]

/-- READ_STATUS, section 1. -/
def State.statusCommand (s : State) : List (Option Int) :=
  s.statusJob .prop ++ s.statusJob .steer
    ++ (match s.intake.lastRefusal with
      | none => [none, none, none, none, none]
      | some r => [fNat r.source, fNat r.kind.number.toNat, fNat r.reason.code] ++ r.object.fields)
    ++ (match s.intake.lastTake with
      | none => [none, none, none]
      | some r => [fNat r.source, fNat (jobCode r.job), fNat r.result.code])

/-- The code of a group's phase, in the order R82 lists them. -/
def Phase.code : Phase → Nat
  | .empty => 0
  | .gathering => 1
  | .running => 2

/-- A group in READ_STATUS, section 2: every field of R82. The hold timer is told by its expiry. -/
def State.statusGroup (s : State) (g : Fin 2) : List (Option Int) :=
  let r := s.groups.recs.get g
  let hold := match r.holdStart, s.groups.rows.get g with
    | some t, some row => some (t + row.holdLimit)
    | _, _ => none
  [fNat r.targetDir.code, fNat r.targetSpeed, fNat r.point, fNat (s.phase g).code]
    ++ (indices 4).map (fun l => fBool ((s.members g).contains l)) ++ [fOpt hold, fBool r.suspended, fNat r.ignored]

/-- READ_STATUS, section 3. -/
def State.statusCouplings (s : State) : List (Option Int) :=
  [fOpt (s.couplings.permit.map (·.holder)), fOpt (s.couplings.permit.map (fun p => p.setAt + 10000 - s.now))]
    ++ (match s.couplings.lastRefusal with
      | none => [none, none, none, none]
      | some r => [fNat r.source, fNat r.order.code, fOpt (r.index.map (·.val)), fNat r.reason.code])

/-- The sounding list, in ascending tank index (R154). -/
def State.soundingList (s : State) : List (Fin 16 × Nat) :=
  (indices 16).filterMap (fun k => (s.transfers.soundings.get k).map (fun kg => (k, kg)))

/-- READ_STATUS, section 4. -/
def State.statusSoundings (s : State) (first : Nat) : List (Option Int) :=
  fNat s.soundingList.length :: ((s.soundingList.drop first).map (fun e => [fNat e.1.val, fNat e.2])).flatten

/-- READ_STATUS (R160); section 4 from a place at or beyond the number of entries tells the count and no entries. -/
def State.readStatus (m : List Byte) (s : State) : Answer :=
  let layout := 0x02 * 256 + u8 m 1
  match u8 m 1 with
  | 0 => s.tells layout s.statusDevice
  | 1 => s.tells layout s.statusCommand
  | 2 => s.tells layout (s.statusGroup 0 ++ s.statusGroup 1)
  | 3 => s.tells layout s.statusCouplings
  | 4 => s.tells layout (s.statusSoundings (u8 m 2))
  | _ => s.refuses .range

/-! ## Device modes (R161) -/

/-- The state with the device mode replaced. -/
def State.setMode (mode : Mode) (s : State) : State := { s with mgmt := { s.mgmt with mode := mode } }

/-- R161: entry to LAID_UP or PASS_THROUGH: every lane UNSYNCED (R50), both groups reset (R82), every actuator UNSYNCED
(R94). -/
def State.idleJobs (s : State) : State :=
  forAll 8 State.unsyncAct (forAll 2 State.resetGroup (forAll 4 State.unsyncLane s))

/-- R161: entry to COORDINATING: the status timer of every loaded actuator starts (R94). -/
def State.startJobs (s : State) : State := forAll 8 State.startActTimer s

/-- ENGAGE (R161). -/
def State.engageMode (_m : List Byte) (s : State) : Answer :=
  match s.mgmt.mode with
  | .coordinating => s.refuses .badState
  | .laidUp => s.refuses .laidUp
  | .passThrough =>
    if s.switch.routes.isEmpty || !(indices 4).any (fun l => (s.lanes.rows.get l).isSome) then s.refuses .notConfigured
    else (s.setMode .coordinating).startJobs.done

/-- LAY_UP (R161). -/
def State.layUp (_m : List Byte) (s : State) : Answer :=
  if s.mgmt.mode ≠ .coordinating || (indices 4).any (fun l => (s.lane l).state.active) then s.refuses .badState
  else (s.setMode .laidUp).idleJobs.done

/-- WAKE (R161). -/
def State.wake (_m : List Byte) (s : State) : Answer :=
  if s.mgmt.mode = .laidUp then (s.setMode .coordinating).startJobs.done else s.refuses .badState

/-- DISENGAGE (R161, R126). -/
def State.disengage (_m : List Byte) (s : State) : Answer :=
  if s.slotsOccupied then s.refuses .transferActive
  else if s.mgmt.mode = .passThrough then s.refuses .badState
  else (forAll 32 State.abandonOperation (s.setMode .passThrough).idleJobs).done

/-! ## SET_CAP (R77) -/

/-- SET_CAP (R77); a speed of 0 is no speed (11.6). -/
def State.setCap (m : List Byte) (s : State) : Answer :=
  match idx 4 (u8 m 1) with
  | none => s.refuses .range
  | some l => match s.lanes.rows.get l with
    | none => s.refuses .range
    | some row =>
      let c := s.lanes.ceils.get l
      match absentAs 0 (u16 m 2) with
      | none => (s.putCeilings l { c with mgmtCap := none }).done
      | some v => if within row.idle 30000 v then (s.putCeilings l { c with mgmtCap := some v }).done
        else s.refuses .range

/-! ## Tanks (R129, R130, R156) -/

/-- A content in kg within a loaded tank's capacity (R130, R154, R156). -/
def State.holdsKg (s : State) (k : Fin 16) (kg : Nat) : Bool :=
  match s.fuel.tanks.get k with
  | some row => decide (kg ≤ row.capacity)
  | none => false

/-- OPEN_TANK (R130). -/
def State.openTank (m : List Byte) (s : State) : Answer :=
  match idx 16 (u8 m 1) with
  | none => s.refuses .range
  | some k =>
    if s.holdsKg k (u32 m 2) = false then s.refuses .range
    else if s.tankBusy k then s.refuses .transferActive
    else ((s.putAcct k ((s.acct k).open_ ((u32 m 2 * mgPerKg : Nat) : Int))).freshReserve k).done

/-- ADJUST_TANK (R156). -/
def State.adjustTankRequest (m : List Byte) (s : State) : Answer :=
  match idx 16 (u8 m 1) with
  | none => s.refuses .range
  | some k =>
    if !(s.acct k).defined || !s.holdsKg k (u32 m 2) then s.refuses .range
    else if s.tankBusy k then s.refuses .transferActive
    else (s.adjustTank k ((u32 m 2 * mgPerKg : Nat) : Int)).done

/-- READ_TANK (R129). -/
def State.readTank (m : List Byte) (s : State) : Answer :=
  match idx 16 (u8 m 1) with
  | none => s.refuses .range
  | some k =>
    let a := s.acct k
    s.tells (0x32 * 256) (fBool (s.fuel.tanks.get k).isSome :: tankFields (s.fuel.tanks.get k)
      ++ [fBool a.defined, fInt a.content, fInt a.opening, fInt a.drawn, fInt a.inTotal, fInt a.outTotal,
          fInt a.adjustment, fBool a.atReserve])

/-! ## Transfers (R143, R144, R152, R153) -/

/-- R144: the next transfer number, from 255 to 1. -/
def nextNumber (n : Nat) : Nat := if n < 255 then n + 1 else 1

/-- R144: an accepted transfer takes its number and its slot. -/
def State.acceptXfer (x : Xfer) (s : State) : State :=
  let s1 := { s with transfers := { s.transfers with nextNumber := nextNumber s.transfers.nextNumber } }
  match s.transfers.active with
  | none => s1.startXfer x
  | some _ => { s1 with transfers := { s1.transfers with waiting := some x } }

/-- TRANSFER (R144); the reply carries the transfer number (assumption log 38). -/
def State.transfer (m : List Byte) (s : State) : Answer :=
  if s.mgmt.mode = .passThrough then s.refuses .badState
  else match idx 16 (u8 m 1), idx 16 (u8 m 2), rowPort (u8 m 8), idx 8 (u8 m 9) with
    | some src, some dst, some port, some ch =>
      let amount := u32 m 3
      if s.xferInRange src dst amount (u8 m 7) ch = false then s.refuses .range
      else if s.transfers.active.isSome && s.transfers.waiting.isSome then s.refuses .slotFull
      else match s.xferRefusal src dst amount with
        | some r => s.refuses r
        | none =>
          let x : Xfer :=
            { number := s.transfers.nextNumber
              source := src
              dest := dst
              amount := amount
              pumpNode := u8 m 7
              pumpPort := port
              channel := ch
              moved := 0
              state := .pending
              code := none
              pumpStopped := false
              startTimer := none
              stopTimer := none
              repeatTimer := none }
          ⟨s.acceptXfer x, .done, [byte s.transfers.nextNumber]⟩
    | _, _, _, _ => s.refuses .range

/-- The ACTIVE record, when it has the number a request names. Numbers come round after 255, so both records may hold one
number; a request then names the ACTIVE record (R152, R153; the model's choice: assumption log 65). -/
def State.activeNumbered (s : State) (n : Nat) : Option Xfer := s.transfers.active.filter (fun x => x.number == n)

/-- The PENDING record, when it has the number a request names. -/
def State.waitingNumbered (s : State) (n : Nat) : Option Xfer := s.transfers.waiting.filter (fun x => x.number == n)

/-- CANCEL_TRANSFER (R153); of two records with the number it names the ACTIVE one (assumption log 65). -/
def State.cancelTransfer (m : List Byte) (s : State) : Answer :=
  match s.activeNumbered (u8 m 1), s.waitingNumbered (u8 m 1) with
  | some x, _ => (if x.state = .suspended then s.closeActive .cancelled x else s.stopXfer .cancelled x).done
  | none, some x => (s.closeWaiting .cancelled x).done
  | none, none => s.refuses .range

/-- R152: a RUNNING record goes to SUSPENDING. -/
def State.suspendXfer (x : Xfer) (s : State) : State :=
  let x' := { x with state := .suspending, pumpStopped := false, stopTimer := some (s.now + 10000),
                     repeatTimer := some (s.now + 1000) }
  (s.putActive (some x')).pumpOrder x' true

/-- SUSPEND_TRANSFER (R152); of two records with the number it names the ACTIVE one (assumption log 65). -/
def State.suspendTransfer (m : List Byte) (s : State) : Answer :=
  match s.activeNumbered (u8 m 1), s.waitingNumbered (u8 m 1) with
  | some x, _ => if x.state = .running then (s.suspendXfer x).done else s.refuses .badState
  | none, some _ => s.refuses .badState
  | none, none => s.refuses .range

/-- RESUME_TRANSFER (R152); of two records with the number it names the ACTIVE one (assumption log 65). -/
def State.resumeTransfer (m : List Byte) (s : State) : Answer :=
  match s.activeNumbered (u8 m 1), s.waitingNumbered (u8 m 1) with
  | some x, _ =>
    if x.state ≠ .suspended then s.refuses .badState
    else if s.hoseFast x.source && s.hoseFast x.dest then (s.startXfer x).done
    else s.refuses .hoseNotFast
  | none, some _ => s.refuses .badState
  | none, none => s.refuses .range

/-- The code of a transfer state, in the order of section 9.1. -/
def XferState.code : XferState → Nat
  | .pending => 0
  | .starting => 1
  | .running => 2
  | .suspending => 3
  | .suspended => 4
  | .stopping => 5
  | .closed => 6

/-- A record in READ_TRANSFER: the fields of section 9.1; one absent field for no record. -/
def xferFields : Option Xfer → List (Option Int)
  | none => [none]
  | some x => [fNat x.number, fNat x.source.val, fNat x.dest.val, fNat x.amount, fNat x.pumpNode, fPort x.pumpPort,
      fNat x.channel.val, fNat x.moved, fNat x.state.code, fOpt (x.code.map CloseCode.number), fBool x.pumpStopped,
      fOpt x.startTimer, fOpt x.stopTimer, fOpt x.repeatTimer]

/-- READ_TRANSFER (R143). -/
def State.readTransfer (_m : List Byte) (s : State) : Answer :=
  s.tells (0x37 * 256) (xferFields s.transfers.active ++ xferFields s.transfers.waiting
    ++ xferFields s.transfers.lastClosed ++ [fNat s.transfers.nextNumber])

/-! ## Soundings and reconciliation (R154, R155) -/

/-- The sounding list with a tank's entry replaced or removed. -/
def State.setSounding (k : Fin 16) (kg : Option Nat) (s : State) : State :=
  { s with transfers := { s.transfers with soundings := s.transfers.soundings.set k kg } }

/-- SOUNDING (R154). -/
def State.sounding (m : List Byte) (s : State) : Answer :=
  match idx 16 (u8 m 1) with
  | none => s.refuses .range
  | some k =>
    if !(s.acct k).defined || !s.holdsKg k (u32 m 2) then s.refuses .range
    else (s.setSounding k (some (u32 m 2))).done

/-- R155: an end of the ACTIVE record in a metered state, which the walk skips. -/
def State.walkSkips (s : State) (k : Fin 16) : Bool :=
  match s.transfers.active with
  | some x => x.endsAt k && x.state.metered
  | none => false

/-- The difference of a sounding (R155), in mg. -/
def State.soundingGap (s : State) (k : Fin 16) (kg : Nat) : Int := ((kg * mgPerKg : Nat) : Int) - (s.acct k).content

/-- R155: the walk over the listed tanks in ascending order, with the entries adjusted so far; a halt names the tank and
the difference. -/
def State.walk (tolerance : Nat) : List (Fin 16) → Nat → State → State × Nat × Option (Fin 16 × Int)
  | [], n, s => (s, n, none)
  | k :: ks, n, s =>
    match s.transfers.soundings.get k with
    | none => State.walk tolerance ks n s
    | some kg =>
      if s.walkSkips k then State.walk tolerance ks n s
      else if (s.soundingGap k kg).natAbs ≤ tolerance * mgPerKg then
        State.walk tolerance ks (n + 1) ((s.adjustTank k ((kg * mgPerKg : Nat) : Int)).setSounding k none)
      else (s, n, some (k, s.soundingGap k kg))

/-- RECONCILE (R155). -/
def State.reconcile (m : List Byte) (s : State) : Answer :=
  if 500000 < u32 m 1 then s.refuses .range
  else match State.walk (u32 m 1) (indices 16) 0 s with
    | (s1, n, none) => s1.tells (0x39 * 256) [fNat n]
    | (s1, n, some (k, gap)) =>
      ⟨s1.raise .reconcileHalted (some k.val), .halted,
       (Config.replyBody (0x39 * 256 + 1) [fNat k.val, fInt gap, fNat n]).take 62⟩

/-! ## Events (R164) -/

/-- A flag in READ_EVENTS. -/
def EventFlag.fields (fl : EventFlag) : List (Option Int) := [fBool fl.isSet, fBool fl.masked, fNat fl.count, fOpt fl.detail]

/-- READ_EVENTS (R164): from the first flag on, as many as fit. -/
def State.readEvents (m : List Byte) (s : State) : Answer :=
  if 26 < u8 m 1 then s.refuses .range
  else s.tells (0x40 * 256) ((s.mgmt.flags.rows.drop (u8 m 1)).map EventFlag.fields).flatten

/-- The flags replaced, place by place. -/
def State.mapFlags (f : Fin 27 → EventFlag → EventFlag) (s : State) : State :=
  forAll 27 (fun i s => { s with mgmt := { s.mgmt with flags := s.mgmt.flags.modify i (f i) } }) s

/-- Bit `n` of the 32-bit set a request carries in bytes 1 to 4. -/
def setNames (m : List Byte) (n : Fin 27) : Bool := (u32 m 1).testBit n.val

/-- CLEAR_EVENTS (R164). -/
def State.clearEvents (m : List Byte) (s : State) : Answer :=
  (s.mapFlags (fun n fl => if setNames m n then fl.clear else fl)).done

/-- SET_MASK (R164). -/
def State.setMask (m : List Byte) (s : State) : Answer :=
  (s.mapFlags (fun n fl => { fl with masked := setNames m n })).done

end Sys2Proof.Machine
end

