-- ==== Sys2Proof/Machine/Reset.lean ====
section
/-!
DEFINITION. The two resets (R166, R167 and the reset rule of each chapter) and the reset line (R170).
-/

namespace Sys2Proof.Machine

/-! ## Power-on reset -/

/-- R3: the node number the straps give. -/
def nodeOfStraps (straps : BitVec 7) : Nat :=
  if 1 ≤ straps.toNat ∧ straps.toNat ≤ 126 then straps.toNat else 126

/-- R167: the part right after power-on reset taken at `now`: the state of State.reset, with the straps read and its timers
counted from the reset. The clock and the commands that wait go on (assumption log 23). -/
def State.powerOn (straps : BitVec 7) (s : State) : State :=
  { State.reset with
    now := s.now
    straps := straps
    node := nodeOfStraps straps
    intake := { State.reset.intake with
      prop := JobRec.reset s.now, steer := JobRec.reset s.now, stateAt := s.now + 1000 }
    lanes := { State.reset.lanes with recs := Tab.fill 4 (LaneRec.reset (s.now + 1000)) }
    steering := { State.reset.steering with summaryAt := s.now + 1000 }
    couplings := { State.reset.couplings with recs := Tab.fill 32 (CoupRec.reset (s.now + 1000)) }
    pending := s.pending }

/-- R170: the reset line asserted for 10 ms or more, or the supply below 15 V, puts every block at its power-on values and
holds the part there until that cause ends; a shorter assertion is disregarded. -/
def State.holdInReset (cause : HoldCause) (s : State) : State :=
  match cause with
  | .line ms =>
    if 10 ≤ ms then { s.powerOn s.straps with lineAsserted := true, supplyLow := s.supplyLow } else s
  | .supplyBelow15V => { s.powerOn s.straps with lineAsserted := s.lineAsserted, supplyLow := true }

/-- R170: a cause of the hold ends. Power-on reset (R167) follows when the line is released with the supply in range, and
when the supply rises into range with the line released; while the other cause lasts the part stays held. The release of
an assertion that was disregarded changes nothing (assumption log 23). -/
def State.endHold (cause : HoldEnd) (s : State) : State :=
  match cause with
  | .lineReleased straps =>
    if s.lineAsserted then
      if s.supplyLow then { s with lineAsserted := false } else s.powerOn straps
    else s
  | .supplyRises straps => if s.lineAsserted then { s with supplyLow := false } else s.powerOn straps

/-! ## Command reset (R166) -/

/-- R31: a route entry at a command reset. -/
def RouteEntry.rearm (e : RouteEntry) : RouteEntry := { e with hits := 0, lastForward := none }

/-- R29 to R31: the frame switch at a command reset. -/
def Switch.commandReset (w : Switch) : Switch where
  B := PortState.reset
  M := PortState.reset
  T := PortState.reset
  routes := w.routes.map RouteEntry.rearm
  unrouted := 0

/-- R47: demand intake at a command reset. -/
def Intake.commandReset (now : Nat) (i : Intake) : Intake :=
  { i with refusals := Tab.fill 4 0, prop := JobRec.reset now, steer := JobRec.reset now, lastRefusal := none,
           lastTake := none, stateAt := now + 1000 }

/-- R142: a channel record at a command reset; the meter timer of a loaded channel starts. -/
def ChanRec.commandReset (now : Nat) (row : Option ChanRow) (r : ChanRec) : ChanRec :=
  { r with implausible := 0, lost := 0, unassigned := 0, unassignedMass := 0,
           timer := row.map (fun x => now + x.timeout) }

/-- R142: the channel records at a command reset. -/
def Fuel.commandReset (now : Nat) (f : Fuel) : Fuel :=
  let recs := (indices 8).foldl (fun t ch => t.modify ch (ChanRec.commandReset now (f.channels.get ch))) f.recs
  { f with recs := recs }

/-- R157: a record closed by a command reset: its code is RESET, and its timers stop. -/
def Xfer.resetClosed (x : Xfer) : Xfer :=
  { x with state := .closed, code := some .reset, startTimer := none, stopTimer := none, repeatTimer := none }

/-- R157: the transfer controller at a command reset. -/
def Transfers.commandReset (x : Transfers) : Transfers :=
  let last := match x.active, x.waiting with
    | some a, _ => some a.resetClosed
    | none, some w => some w.resetClosed
    | none, none => x.lastClosed
  { x with active := none, waiting := none, lastClosed := last, soundings := Tab.fill 16 none }

/-- R166: every block at its command-reset state, before the frames and events of the reset. No summary is due for a state
that the reset changes (the model's choice: assumption log 50). -/
def State.commandState0 (s : State) : State :=
  { s with
    switch := s.switch.commandReset
    intake := s.intake.commandReset s.now
    lanes := { s.lanes with
      recs := Tab.fill 4 (LaneRec.reset (s.now + 1000)), ceils := Tab.fill 4 Ceilings.empty }
    groups := { s.groups with recs := Tab.fill 2 GroupRec.reset }
    steering := { s.steering with recs := Tab.fill 8 ActRec.reset, helm := 0, summaryAt := s.now + 1000 }
    couplings := { s.couplings with
      recs := Tab.fill 32 (CoupRec.reset (s.now + 1000)), permit := none, lastRefusal := none }
    fuel := s.fuel.commandReset s.now
    transfers := s.transfers.commandReset
    mgmt := { mode := .passThrough, flags := Tab.fill 27 EventFlag.reset, arming := none, slots := Tab.fill 2 none }
    due := Due.none }

/-- R157: the stop that follows a command reset, the one PUMP_ORDER of PASS_THROUGH. -/
def State.resetStop (active : Option Xfer) (s : State) : State :=
  match active with
  | some x => s.originate x.pumpPort .pumpOrder x.pumpNode [1#8, byte x.number]
  | none => s

/-- R166: the command reset, in one event: the stop of R157, RESET_DONE set, and the reserves evaluated afresh (R142), the
tanks in ascending index (the model's choice: assumption log 61). -/
def State.commandReset (s : State) : State :=
  forAll 16 State.freshReserve ((s.commandState0.resetStop s.transfers.active).raise .resetDone none)

end Sys2Proof.Machine
end

