-- ==== Sys2Proof/Machine/Management.lean ====
section
/-!
DEFINITION. The management block: reassembly (R10 to R12), replies (R13), the tests of a request (R159, R162), the reset
arming record (R165), and the execution of a complete request.
-/

namespace Sys2Proof.Machine

/-! ## Requests by code and table (11.6) -/

/-- The requests, LOAD_ROW and CLEAR_TABLE by the table they name. `badTable` is LOAD_ROW, READ_ROW or CLEAR_TABLE of a table
that does not exist or that the message is too short to name. -/
inductive Req where
  | unknown | badTable | identify | readStatus | readRow
  | loadRoute | loadStation | loadTiming | loadLane | loadGroup | loadActuator | loadBank | loadCoupling | loadTank
  | loadChannel
  | clearRoutes | clearStations | clearLanes | clearGroups | clearActuators | clearBank | clearCouplings | clearTanks
  | clearChannels
  | closeBank | swapBank | engage | disengage | layUp | wake | setCap | openTank | adjustTank | readTank
  | transfer | cancelTransfer | suspendTransfer | resumeTransfer | readTransfer | sounding | reconcile
  | readEvents | clearEvents | setMask | readCounters | resetArm | reset
deriving DecidableEq, Repr

/-- The LOAD_ROW of a table; index 4 of the station table is the timing row (R33). -/
def loadOf (m : List Byte) : Req :=
  match u8 m 1 with
  | 0 => .loadRoute
  | 1 => if u8 m 2 = 4 then .loadTiming else .loadStation
  | 2 => .loadLane
  | 3 => .loadGroup
  | 4 => .loadActuator
  | 5 | 6 => .loadBank
  | 7 => .loadCoupling
  | 8 => .loadTank
  | 9 => .loadChannel
  | _ => .badTable

/-- The CLEAR_TABLE of a table. -/
def clearOf (m : List Byte) : Req :=
  match u8 m 1 with
  | 0 => .clearRoutes
  | 1 => .clearStations
  | 2 => .clearLanes
  | 3 => .clearGroups
  | 4 => .clearActuators
  | 5 | 6 => .clearBank
  | 7 => .clearCouplings
  | 8 => .clearTanks
  | 9 => .clearChannels
  | _ => .badTable

/-- The request a message makes (11.6). -/
def requestOf (m : List Byte) : Req :=
  let named (r : Req) : Req := if m.length < 2 then .badTable else r
  match u8 m 0 with
  | 0x01 => .identify
  | 0x02 => .readStatus
  | 0x10 => named (loadOf m)
  | 0x11 => named (if u8 m 1 ≤ 9 then .readRow else .badTable)
  | 0x12 => .swapBank
  | 0x13 => named (clearOf m)
  | 0x14 => .closeBank
  | 0x20 => .engage
  | 0x21 => .disengage
  | 0x22 => .layUp
  | 0x23 => .wake
  | 0x28 => .setCap
  | 0x30 => .openTank
  | 0x31 => .adjustTank
  | 0x32 => .readTank
  | 0x33 => .transfer
  | 0x34 => .cancelTransfer
  | 0x35 => .suspendTransfer
  | 0x36 => .resumeTransfer
  | 0x37 => .readTransfer
  | 0x38 => .sounding
  | 0x39 => .reconcile
  | 0x40 => .readEvents
  | 0x41 => .clearEvents
  | 0x42 => .setMask
  | 0x43 => .readCounters
  | 0x50 => .resetArm
  | 0x51 => .reset
  | _ => .unknown

/-- The length of a request's layout (11.6); READ_STATUS is longer for section 4. -/
def Req.length (m : List Byte) : Req → Nat
  | .unknown | .badTable => 0
  | .identify | .swapBank | .engage | .disengage | .layUp | .wake | .readTransfer | .resetArm | .reset => 1
  | .readStatus => if u8 m 1 = 4 then 3 else 2
  | .readRow => 3
  | .loadRoute => 3 + 7
  | .loadStation => 3 + 6
  | .loadTiming => 3 + 4
  | .loadLane => 3 + 34
  | .loadGroup => 3 + 4
  | .loadActuator => 3 + 19
  | .loadBank => 3 + 6
  | .loadCoupling => 3 + 30
  | .loadTank => 3 + 22
  | .loadChannel => 3 + 12
  | .clearRoutes | .clearStations | .clearLanes | .clearGroups | .clearActuators | .clearBank | .clearCouplings
  | .clearTanks | .clearChannels => 2
  | .closeBank => 2
  | .setCap => 4
  | .openTank | .adjustTank | .sounding => 6
  | .readTank => 2
  | .transfer => 10
  | .cancelTransfer | .suspendTransfer | .resumeTransfer => 2
  | .reconcile => 5
  | .readEvents => 2
  | .clearEvents | .setMask => 5
  | .readCounters => 2

/-- R162: the requests LAID_UP refuses; ENGAGE refuses itself with the same result (R161). -/
def Req.needsAwake : Req → Bool
  | .loadRoute | .loadStation | .loadTiming | .loadLane | .loadGroup | .loadActuator | .loadBank | .loadCoupling
  | .loadTank | .loadChannel
  | .clearRoutes | .clearStations | .clearLanes | .clearGroups | .clearActuators | .clearBank | .clearCouplings
  | .clearTanks | .clearChannels
  | .closeBank | .swapBank | .engage => true
  | _ => false

/-- R159, tests 1 to 3: what refuses a request before its owner tests it. -/
def State.earlyRefusal (s : State) (r : Req) (m : List Byte) : Option Result :=
  if r = .unknown then some .unknownRequest
  else if r = .badTable ∨ m.length < r.length m then some .range
  else if r.needsAwake ∧ s.mgmt.mode = .laidUp then some .laidUp
  else none

/-! ## Replies (R13) -/

/-- The frames of one reply: ⌈L / 8⌉ parts in index order, the last-part flag on the last. -/
def State.replyFrames (s : State) (target : Nat) (bytes : List Byte) : List CmsFrame :=
  let n := (bytes.length + 7) / 8
  (List.range n).map (fun k =>
    { id := { cls := 3#3, kind := MsgKind.mgmtReply.number, source := BitVec.ofNat 7 s.node,
              target := BitVec.ofNat 7 target, last := decide (k + 1 = n), part := BitVec.ofNat 3 k }
      data := (bytes.drop (8 * k)).take 8 })

/-- One MGMT_REPLY queued on B. -/
def State.reply (target : Nat) (code : Byte) (r : Result) (body : List Byte) (s : State) : State :=
  s.originateAll .B (s.replyFrames target (code :: byte r.number :: body))

/-! ## Reset arming record (R165) -/

/-- The reset arming record replaced. -/
def State.setArming (a : Option Arming) (s : State) : State := { s with mgmt := { s.mgmt with arming := a } }

/-- R165: the arming record after a request: RESET_ARM arms, any other leaves it absent. -/
def State.armAfter (source : Nat) (r : Req) (s : State) : State :=
  match r with
  | .resetArm => s.setArming (some { source := source, expiry := s.now + 5000 })
  | _ => s.setArming none

/-- R165: the record holds a source. -/
def State.armedFor (s : State) (source : Nat) : Bool := s.mgmt.arming.any (fun a => a.source == source)

/-- RESET_ARM (R165): the record is set by `armAfter`. -/
def State.resetArm (_source : Nat) (s : State) : Answer := s.done

/-- RESET (R165, R166). -/
def State.resetRequest (source : Nat) (s : State) : Answer :=
  if s.armedFor source then s.commandReset.done else s.refuses .notArmed

/-- The expiry of the arming window (R165). -/
def State.armingExpires (s : State) : State :=
  match s.mgmt.arming with
  | some a => if a.expiry ≤ s.now then s.setArming none else s
  | none => s

/-! ## Execution (R159) -/

/-- An answer sent: the reply queued and the arming record brought up to date. -/
def State.conclude (source : Nat) (m : List Byte) (r : Req) (a : Answer) : State :=
  (a.state.armAfter source r).reply source (m.getD 0 0) a.result a.body

/-- A complete request that makes `r`, executed: the tests of R159, then `owner`, then the reply. -/
def State.execute (r : Req) (owner : State → Answer) (source : Nat) (m : List Byte) (s : State) : State :=
  match s.earlyRefusal r m with
  | some why => State.conclude source m r (s.refuses why)
  | none => State.conclude source m r (owner s)

/-- The owner's part of each request. -/
def Req.owner (source : Nat) (m : List Byte) (s : State) : Req → Answer
  | .unknown => s.refuses .unknownRequest
  | .badTable => s.refuses .range
  | .identify => s.identify m
  | .readStatus => s.readStatus m
  | .readRow => s.readRow m
  | .loadRoute => s.loadRoute m
  | .loadStation => s.loadStation m
  | .loadTiming => s.loadTiming m
  | .loadLane => s.loadLane m
  | .loadGroup => s.loadGroup m
  | .loadActuator => s.loadActuator m
  | .loadBank => s.loadBank m
  | .loadCoupling => s.loadCoupling m
  | .loadTank => s.loadTank m
  | .loadChannel => s.loadChannel m
  | .clearRoutes => s.clearRoutes m
  | .clearStations => s.clearStations m
  | .clearLanes => s.clearLanes m
  | .clearGroups => s.clearGroups m
  | .clearActuators => s.clearActuators m
  | .clearBank => s.clearBank m
  | .clearCouplings => s.clearCouplings m
  | .clearTanks => s.clearTanks m
  | .clearChannels => s.clearChannels m
  | .closeBank => s.closeBank m
  | .swapBank => s.swapBank m
  | .engage => s.engageMode m
  | .disengage => s.disengage m
  | .layUp => s.layUp m
  | .wake => s.wake m
  | .setCap => s.setCap m
  | .openTank => s.openTank m
  | .adjustTank => s.adjustTankRequest m
  | .readTank => s.readTank m
  | .transfer => s.transfer m
  | .cancelTransfer => s.cancelTransfer m
  | .suspendTransfer => s.suspendTransfer m
  | .resumeTransfer => s.resumeTransfer m
  | .readTransfer => s.readTransfer m
  | .sounding => s.sounding m
  | .reconcile => s.reconcile m
  | .readEvents => s.readEvents m
  | .clearEvents => s.clearEvents m
  | .setMask => s.setMask m
  | .readCounters => s.readCounters m
  | .resetArm => s.resetArm source
  | .reset => s.resetRequest source

/-- A request handed on as complete, executed (R159). -/
def State.serve (source : Nat) (m : List Byte) (s : State) : State :=
  s.execute (requestOf m) (fun s => (requestOf m).owner source m s) source m

/-! ## Reassembly (R10 to R12) -/

/-- The OPEN slot of a source. -/
def State.slotOf (s : State) (source : Nat) : Option (Fin 2) :=
  (indices 2).find? (fun i => (s.mgmt.slots.get i).any (fun a => a.source == source))

/-- The first FREE slot. -/
def State.freeSlot (s : State) : Option (Fin 2) := (indices 2).find? (fun i => (s.mgmt.slots.get i).isNone)

/-- A slot replaced. -/
def State.setSlot (i : Fin 2) (a : Option Assembly) (s : State) : State :=
  { s with mgmt := { s.mgmt with slots := s.mgmt.slots.set i a } }

/-- Any OPEN slot of a source discarded: FREE, its bytes dropped. -/
def State.dropSlot (source : Nat) (s : State) : State :=
  match s.slotOf source with
  | some i => s.setSlot i none
  | none => s

/-- PART_ERROR answered and raised (R10, R11). No rule orders the reply and the ATTENTION frame in B's queue; the model
queues the reply first (the model's choice: assumption log 62). -/
def State.partError (source : Nat) (code : Byte) (s : State) : State :=
  (s.reply source code .partError []).raise .partError (some source)

/-- A slot opened or restarted by a part 0 (R10). -/
def assemblyOf (source : Nat) (data : List Byte) (now : Nat) : Assembly where
  source := source
  code := data.getD 0 0
  next := 1
  bytes := data
  expiry := now + 500

/-- R10: a part with index 0, not the last, of 8 bytes. -/
def State.openSlot (source : Nat) (data : List Byte) (s : State) : State :=
  match s.slotOf source with
  | some i => s.setSlot i (some (assemblyOf source data s.now))
  | none =>
    match s.freeSlot with
    | some i => s.setSlot i (some (assemblyOf source data s.now))
    | none => s.reply source (data.getD 0 0) .busy []

/-- R10: a part with index 0 taken; a complete message is handed on. -/
def State.firstPart (source : Nat) (last : Bool) (data : List Byte) (s : State) : State × Option (List Byte) :=
  if last then
    if data.isEmpty then (s.countMalformed .B, none) else (s.dropSlot source, some data)
  else if data.isEmpty then ((s.dropSlot source).countMalformed .B, none)
  else if data.length < 8 then ((s.dropSlot source).partError source (data.getD 0 0), none)
  else (s.openSlot source data, none)

/-- R11: a part with index `k` from 1 to 7 taken; a complete message is handed on. -/
def State.laterPart (source k : Nat) (last : Bool) (data : List Byte) (s : State) : State × Option (List Byte) :=
  match s.slotOf source with
  | none => (s.countMalformed .B, none)
  | some i =>
    match s.mgmt.slots.get i with
    | none => (s, none)
    | some a =>
      if a.next ≠ k then ((s.setSlot i none).partError source a.code, none)
      else if last then
        if data.isEmpty then ((s.setSlot i none).partError source a.code, none)
        else (s.setSlot i none, some (a.bytes ++ data))
      else if data.length < 8 ∨ k = 7 then ((s.setSlot i none).partError source a.code, none)
      else
        (s.setSlot i (some { a with next := k + 1, bytes := a.bytes ++ data, expiry := s.now + 500 }), none)

/-- A MGMT_REQUEST part taken from the frame switch (R10, R11). -/
def State.takePart (q : Received) (s : State) : State × Option (List Byte) :=
  let source := q.frame.id.source.toNat
  if q.frame.id.part = 0 then s.firstPart source q.frame.id.last q.frame.data
  else s.laterPart source q.frame.id.part.toNat q.frame.id.last q.frame.data

/-- R12: the assembly timer of a slot expires. -/
def State.assemblyExpires (i : Fin 2) (s : State) : State :=
  match s.mgmt.slots.get i with
  | some a =>
    if a.expiry ≤ s.now then ((s.setSlot i none).countMalformed .B).raise .partError (some a.source) else s
  | none => s

end Sys2Proof.Machine
end

