-- ==== Sys2Proof/Machine/Switch.lean ====
section
/-!
DEFINITION. The frame switch (chapters 1 and 2): frame received, validity, classification, lookup, thinning, forwarding,
delivery, and egress selection.
-/

namespace Sys2Proof.Machine

/-! ## Ingress (R14) -/

/-- A frame on the wire as the switch sees it: the identifier's fields and the data. -/
def receivedOf (f : WireFrame) (arrival : Nat) : Received where
  extended := f.extended
  remote := f.remote
  frame := { id := Ident.ofBits f.ident, data := f.data }
  arrival := arrival

/-- A frame received whole on a port (R14). -/
def State.receive (p : Port) (q : Received) (s : State) : State :=
  let ps := s.port p
  let ps1 := { ps with received := bump ps.received }
  if ps.ingress.length < ingressMax then s.setPort p { ps1 with ingress := ps.ingress ++ [q] }
  else (s.setPort p { ps1 with ingressOverflow := bump ps.ingressOverflow }).raise .ingressOverflow (some (portCode p))

/-! ## Validity (R5) and what becomes of a frame (R16 to R18, R21) -/

/-- The kind of a frame, if it is in the message set. -/
def Received.kind (q : Received) : Option MsgKind := MsgKind.ofNumber q.frame.id.kind

/-- A frame of the two multi-part kinds. -/
def Received.isManagement (q : Received) : Bool := q.kind == some .mgmtRequest || q.kind == some .mgmtReply

/-- R5: the validity tests. -/
def Received.isMalformed (own : Nat) (q : Received) : Bool :=
  let i := q.frame.id
  !q.extended || q.remote
    || i.source.toNat == 0 || i.source.toNat == 127
    || i.target.toNat == 127
    || i.source.toNat == own
    || (!q.isManagement && (i.part.toNat != 0 || !i.last))

/-- R4: the frame is addressed to the part. -/
def Received.isAddressed (own : Nat) (q : Received) : Bool := q.frame.id.target.toNat == own

/-- What becomes of a frame taken from the head of an ingress queue. -/
inductive Fate where
  /-- Dropped whole and counted as malformed (R5, R16). -/
  | malformed
  /-- Handed to the management block (R16). -/
  | toManagement
  /-- Forwarded to the two other ports; a status kind is delivered as well (R17). -/
  | passThrough
  /-- Dealt with by an entry of the route table (R18). -/
  | routed (e : RouteEntry)
  /-- Dropped; no entry matches (R21). -/
  | unrouted
deriving DecidableEq, Repr

/-- R21: the entry that matches a frame: the exact key first, then ANY. -/
def lookup (es : List RouteEntry) (q : Received) : Option RouteEntry :=
  let k := q.frame.id.kind.toNat
  match es.find? (fun e => e.kind == k && e.source == some q.frame.id.source.toNat) with
  | some e => some e
  | none => es.find? (fun e => e.kind == k && e.source == none)

/-- R17, R18: a frame that R16 leaves to the mode. -/
def State.fateByMode (s : State) (q : Received) : Fate :=
  if s.mgmt.mode = .passThrough then .passThrough
  else match lookup s.switch.routes q with
    | some e => .routed e
    | none => .unrouted

/-- R5, R16, R17, R18: the fate of a frame that arrived on a port. -/
def State.fate (s : State) (p : Port) (q : Received) : Fate :=
  if q.isMalformed s.node then .malformed
  else if q.isAddressed s.node then
    match q.kind with
    | some .mgmtRequest => if p = .B then .toManagement else .malformed
    | some .mgmtReply => .malformed
    | _ => if s.mgmt.mode = .passThrough then .malformed else s.fateByMode q
  else if q.isManagement && p != .B && s.mgmt.mode != .passThrough then .malformed
  else s.fateByMode q

/-! ## Forwarding (R17, R22, R23, R25) -/

/-- A port is in a forward set. -/
def PortSet.has (f : PortSet) : Port → Bool
  | .B => f.B
  | .M => f.M
  | .T => f.T

/-- A forward set less the arrival port. -/
def PortSet.less (f : PortSet) (p : Port) : PortSet where
  B := f.B && p != .B
  M := f.M && p != .M
  T := f.T && p != .T

/-- Copies of a frame offered to the ports of a set, in the order B, M, T. -/
def State.forward (out : PortSet) (f : CmsFrame) (s : State) : State :=
  let s1 := if out.B then s.offer .B .forwarded f else s
  let s2 := if out.M then s1.offer .M .forwarded f else s1
  if out.T then s2.offer .T .forwarded f else s2

/-- R25: the frame is thinned. -/
def RouteEntry.thins (e : RouteEntry) (arrival : Nat) : Bool :=
  match e.interval, e.lastForward with
  | some i, some p => decide (arrival < p + i)
  | _, _ => false

/-- R23: the entry counts the frame as forwarded. -/
def RouteEntry.forwards (e : RouteEntry) (p : Port) (arrival : Nat) : Bool :=
  let out := e.forward.less p
  !e.thins arrival && (out.B || out.M || out.T)

/-- R22, R25: an entry after a frame it matched. -/
def RouteEntry.matched (e : RouteEntry) (p : Port) (arrival : Nat) : RouteEntry :=
  { e with
    hits := bump e.hits
    lastForward := if e.interval.isSome && e.forwards p arrival then some arrival else e.lastForward }

/-- R23: a copy: the frame with the entry's rewrite target, if it has one. -/
def RouteEntry.copy (e : RouteEntry) (f : CmsFrame) : CmsFrame :=
  match e.rewrite with
  | some t => { f with id := { f.id with target := BitVec.ofNat 7 t } }
  | none => f

/-- R18, steps 1 to 3: an entry's hit counter, thinning and forwarding. -/
def State.routeBy (e : RouteEntry) (p : Port) (q : Received) (s : State) : State :=
  let s1 := s.setRoutes (s.switch.routes.map (fun x => if x.sameKey e then x.matched p q.arrival else x))
  if e.thins q.arrival then s1 else s1.forward (e.forward.less p) (e.copy q.frame)

/-- R21: an unrouted frame counted, with UNROUTED raised. -/
def State.countUnrouted (p : Port) (s : State) : State :=
  ({ s with switch := { s.switch with unrouted := bump s.switch.unrouted } }).raise .unrouted (some (portCode p))

/-! ## Classification up to delivery (R15, R24) -/

/-- The head of a port's ingress queue, and the state with it taken. -/
def State.popHead (p : Port) (s : State) : Option (Received × State) :=
  match (s.port p).ingress with
  | [] => none
  | q :: rest => some (q, s.setPort p { s.port p with ingress := rest })

/-- A frame the switch has dealt with but for what its owner does: the state, and the kind and frame delivered to an owner,
if any, or the frame handed to the management block. -/
inductive Sorted where
  | finished (s : State)
  | delivered (k : MsgKind) (q : Received) (s : State)
  | managed (q : Received) (s : State)

/-- R6, R168: a frame delivered to the owner of its kind; a short or undeliverable one is counted instead. A MGMT_REQUEST not
addressed to the part is delivered without effect (R8). -/
def State.deliver (p : Port) (q : Received) (s : State) : Sorted :=
  match q.kind with
  | none => .finished s
  | some k =>
    if k.hasOwner = false then .finished s
    else if handable k q.frame.data = false then .finished (s.countMalformed p)
    else if k = .mgmtRequest then .finished s
    else .delivered k q s

/-- A frame taken from the head of a port's queue, dealt with up to its delivery (R5, R15 to R25). -/
def State.sort (p : Port) (q : Received) (s : State) : Sorted :=
  match s.fate p q with
  | .malformed => .finished (s.countMalformed p)
  | .toManagement => .managed q s
  | .passThrough =>
    let s1 := s.forward (PortSet.less { B := true, M := true, T := true } p) q.frame
    if (q.kind.map MsgKind.isStatus).getD false then s1.deliver p q else .finished s1
  | .routed e =>
    let s1 := s.routeBy e p q
    if e.deliver then s1.deliver p q else .finished s1
  | .unrouted => .finished (s.countUnrouted p)

/-- The head of a port's queue, taken and dealt with up to its delivery. -/
def State.sortHead (p : Port) (s : State) : Option Sorted :=
  match s.popHead p with
  | none => none
  | some (q, s1) => some (s1.sort p q)

/-! ## Delivery of each kind -/

/-- A frame of kind `k` delivered from the head of a port's queue and taken by `f`; a head that is not one is left for
its own step (assumption log 4). -/
def State.onDelivery (p : Port) (k : MsgKind) (f : Received → State → State) (s : State) : State :=
  match s.sortHead p with
  | some (.delivered k' q s1) => if k' = k then f q s1 else s
  | some (.finished _) => s
  | some (.managed _ _) => s
  | none => s

/-- A COUPLING_ORDER carrying the order `o`, delivered from the head of a port's queue and taken by `f`. -/
def State.onOrder (p : Port) (o : CoupOrder) (f : Received → State → State) (s : State) : State :=
  match s.sortHead p with
  | some (.delivered .couplingOrder q s1) => if demandOrder q.frame.data = o then f q s1 else s
  | _ => s

/-- A request that makes `r`, completed by the part at the head of port B's queue, taken by `f` (R10, R11, R159). -/
def State.onRequest (r : Req) (f : Nat → List Byte → State → State) (s : State) : State :=
  match s.sortHead .B with
  | some (.managed q s1) =>
    match s1.takePart q with
    | (s2, some m) => if requestOf m = r then f q.frame.id.source.toNat m s2 else s
    | (_, none) => s
  | _ => s

/-- A part of a request at the head of a port's queue: stored, discarded or refused by reassembly, or completing a request,
which is then executed in the same event (R10, R11, R159). -/
def State.requestPart (q : Received) (s : State) : State :=
  match s.takePart q with
  | (s1, some m) => s1.serve q.frame.id.source.toNat m
  | (s1, none) => s1

/-- A delivered frame taken by the owner of its kind (section 1.5). -/
def State.owned (k : MsgKind) (q : Received) (s : State) : State :=
  match k with
  | .speedDemand => s.takeDemand .speedDemand .prop (State.speedDemand q) q
  | .groupDemand => s.takeDemand .groupDemand .prop (State.groupDemand q) q
  | .neutralDemand => s.takeDemand .neutralDemand .prop (State.neutralDemand q) q
  | .kickDemand => s.takeDemand .kickDemand .prop (State.kickDemand q) q
  | .crashAstern => s.takeDemand .crashAstern .prop State.crashAstern q
  | .helmDemand => s.takeDemand .helmDemand .steer (State.helmDemand q) q
  | .takeCommand => s.takeCommand q
  | .releaseCommand => s.releaseCommand q
  | .couplingOrder => s.takeOrder (State.couplingOrder (demandOrder q.frame.data)) q
  | .engineStatus => s.takeEngine q
  | .steerStatus => s.takeSteer q
  | .winchStatus => s.takeWinch q
  | .pumpStatus => s.takePump q
  | .meterReading => s.takeReading q
  | .governorOrder | .steerOrder | .winchOrder | .pumpOrder | .laneSummary | .helmSummary | .couplingSummary
  | .commandState | .attention | .mgmtReply | .mgmtRequest => s

/-- The head of a port's queue taken and dealt with whole (R15). -/
def State.classifyHead (p : Port) (s : State) : State :=
  match s.sortHead p with
  | none => s
  | some (.finished s1) => s1
  | some (.delivered k q s1) => s1.owned k q
  | some (.managed q s1) => s1.requestPart q

/-! ## Egress selection (R27, R28) -/

/-- The lowest class present in a queue. -/
def lowestClass (fs : List CmsFrame) : Nat := (leastOf (fs.map (fun f => f.id.cls.toNat))).getD 0

/-- A queue less the oldest frame of a class. -/
def takeOldest (c : Nat) : List CmsFrame → List CmsFrame
  | [] => []
  | f :: fs => if f.id.cls.toNat = c then fs else f :: takeOldest c fs

/-- R27: the segment takes the oldest frame of the lowest class; at a depth of 24 or below the mark is armed (R28). -/
def State.sendFrame (p : Port) (s : State) : State :=
  let ps := s.port p
  if ps.egress.isEmpty then s
  else
    let rest := takeOldest (lowestClass ps.egress) ps.egress
    s.setPort p { ps with egress := rest, armed := ps.armed || decide (rest.length ≤ 24) }

end Sys2Proof.Machine
end

