-- ==== Sys2Proof/Machine/Event.lean ====
section
/-!
DEFINITION. One step of the part as an event: the clock, the effect, the summaries it gave cause for. While the part is held
in reset it takes no frame and keeps no state (R170), so a step then moves the clock alone.
-/

namespace Sys2Proof.Machine

/-- A step taken at `t` with the effect `k`. -/
def event (t : Nat) (k : State → State) (s : State) : Host.Outcome State Fault Refusal :=
  .next (if (s.at t).held then s.at t else (k (s.at t)).flush)

/-- A MGMT_REQUEST part addressed to the part, at the head of a port's queue: handed to the management block on B, dropped
and counted on M and T (R16). Another head is left for its own step (assumption log 4). -/
def State.onRequestPart (p : Port) (s : State) : State :=
  match (s.port p).ingress with
  | [] => s
  | q :: _ => if q.kind = some .mgmtRequest ∧ q.isAddressed s.node then s.classifyHead p else s

end Sys2Proof.Machine
end

