-- ==== Sys2Proof/Machine/CouplingSteps.lean ====
section
/-!
DEFINITION. The steps of the coupling supervisor (chapter 7).
-/

namespace Sys2Proof.Machine

/-- WINCH_STATUS (R111): A winch report updates the coupling's tension, drum and hook, restarts its status timer and
acts by the coupling's state, and then the boat's derate is recomputed. -/
def execWinchStatus (t : Nat) (p : Port) (s : State) : Host.Outcome State Fault Refusal :=
  event t (State.onDelivery p .winchStatus State.takeWinch) s

/-- COUPLING_STATUS_TIMEOUT (R111): A coupling's status timer expires and the coupling goes to FAULT with
STATUS_LOST. -/
def execCouplingStatusTimeout (t : Nat) (c : Fin 32) (s : State) : Host.Outcome State Fault Refusal :=
  event t (State.coupSilent c) s

/-- SLACK_TIMER_EXPIRY (R114): slack persists in MADE_FAST for the slack time: the coupling goes LOST and
COUPLING_LOST is raised. -/
def execSlackTimerExpiry (t : Nat) (c : Fin 32) (s : State) : Host.Outcome State Fault Refusal :=
  event t (State.slackExpires c) s

/-- COUPLING_OPERATION_TIMEOUT (R115): A make-up, ease or release timer expires: the coupling faults with the
matching timeout and queues one hold order. -/
def execCouplingOperationTimeout (t : Nat) (c : Fin 32) (s : State) : Host.Outcome State Fault Refusal :=
  event t (State.operationExpires c) s

/-- COUPLING_REPEAT_EXPIRY (R120): 500 ms after its last winch order, the operation's order is queued again. -/
def execCouplingRepeatExpiry (t : Nat) (c : Fin 32) (s : State) : Host.Outcome State Fault Refusal :=
  event t (State.coupRepeats c) s

/-- COUPLING_SUMMARY_PERIOD (R127): 1,000 ms after a coupling's last summary, a new COUPLING_SUMMARY is queued. -/
def execCouplingSummaryPeriod (t : Nat) (c : Fin 32) (s : State) : Host.Outcome State Fault Refusal :=
  event t (State.coupSummaryDue c) s

/-- MAKE_UP (R118): A coupling order to heave a coupling up to its make-up target from RELEASED, SLACKED or LOST. -/
def execMakeUp (t : Nat) (p : Port) (s : State) : Host.Outcome State Fault Refusal :=
  event t (State.onOrder p .makeUp (State.takeOrder (State.makeUpOrder))) s

/-- EASE (R119): A coupling order to pay out a MADE_FAST coupling, taking it out of MADE_FAST. -/
def execEase (t : Nat) (p : Port) (s : State) : Host.Outcome State Fault Refusal :=
  event t (State.onOrder p .ease (State.takeOrder (State.easeOrder))) s

/-- RELEASE (R123): A coupling order to open the hook of a SLACKED, unlocked coupling, tested for lock, permit,
slack, propulsion and hose. -/
def execRelease (t : Nat) (p : Port) (s : State) : Host.Outcome State Fault Refusal :=
  event t (State.onOrder p .release (State.takeOrder (State.releaseOrder))) s

/-- LOCK (R121): sets one coupling's release lock. -/
def execLock (t : Nat) (p : Port) (s : State) : Host.Outcome State Fault Refusal :=
  event t (State.onOrder p .lock (State.takeOrder (State.lockOrder))) s

/-- UNLOCK (R121): clears one coupling's release lock if the source holds the permit, using the permit. -/
def execUnlock (t : Nat) (p : Port) (s : State) : Host.Outcome State Fault Refusal :=
  event t (State.onOrder p .unlock (State.takeOrder (State.unlockOrder))) s

/-- LOCK_ALL (R121): sets the release lock of every loaded coupling. -/
def execLockAll (t : Nat) (p : Port) (s : State) : Host.Outcome State Fault Refusal :=
  event t (State.onOrder p .lockAll (State.takeOrder (fun _ => State.lockAllOrder))) s

/-- UNLOCK_ALL (R121): clears the locks of every loaded coupling that is not RELEASED, using the permit. -/
def execUnlockAll (t : Nat) (p : Port) (s : State) : Host.Outcome State Fault Refusal :=
  event t (State.onOrder p .unlockAll (State.takeOrder (State.unlockAllOrder))) s

/-- PERMIT (R122): gives the release permit to the order's source for 10,000 ms. -/
def execPermit (t : Nat) (p : Port) (s : State) : Host.Outcome State Fault Refusal :=
  event t (State.onOrder p .permit (State.takeOrder (State.permitOrder))) s

/-- PERMIT_EXPIRY (R122): the release permit expires 10,000 ms after it was set and the permit record becomes absent. -/
def execPermitExpiry (t : Nat) (s : State) : Host.Outcome State Fault Refusal :=
  event t State.permitExpires s

end Sys2Proof.Machine
end

