-- ==== Sys2Proof/Machine/DemandSteps.lean ====
section
/-!
DEFINITION. The steps of demand intake (chapter 3), with the demands passed on to lanes, groups and helm in the same event.
-/

namespace Sys2Proof.Machine

/-- SPEED_DEMAND (R58): A lane speed demand is tested by demand intake, normalised and refused or applied to the lane
as a refresh or a change. -/
def execSpeedDemand (t : Nat) (p : Port) (s : State) : Host.Outcome State Fault Refusal :=
  event t (State.onDelivery p .speedDemand (fun q => State.takeDemand .speedDemand .prop (State.speedDemand q) q)) s

/-- NEUTRAL_DEMAND (R58): A demand to bring a lane to target NEUTRAL, 0. -/
def execNeutralDemand (t : Nat) (p : Port) (s : State) : Host.Outcome State Fault Refusal :=
  event t (State.onDelivery p .neutralDemand (fun q => State.takeDemand .neutralDemand .prop (State.neutralDemand q) q)) s

/-- KICK_DEMAND (R69): A timed engagement demand for a lane, accepted or refused KICK_REVERSAL by the lane's state. -/
def execKickDemand (t : Nat) (p : Port) (s : State) : Host.Outcome State Fault Refusal :=
  event t (State.onDelivery p .kickDemand (fun q => State.takeDemand .kickDemand .prop (State.kickDemand q) q)) s

/-- CRASH_ASTERN (R71): sets the crash flag on every eligible lane, suspends both groups and changes each lane's
target to astern at its crash astern speed. -/
def execCrashAstern (t : Nat) (p : Port) (s : State) : Host.Outcome State Fault Refusal :=
  event t (State.onDelivery p .crashAstern (fun q => State.takeDemand .crashAstern .prop (State.crashAstern) q)) s

/-- GROUP_DEMAND (R83): A step-group demand, refused, ignored while the group is suspended, taken as a refresh, or
taken as a change that rebuilds the group. -/
def execGroupDemand (t : Nat) (p : Port) (s : State) : Host.Outcome State Fault Refusal :=
  event t (State.onDelivery p .groupDemand (fun q => State.takeDemand .groupDemand .prop (State.groupDemand q) q)) s

/-- HELM_DEMAND (R99): sets the clamped helm target and re-evaluates every actuator when the value differs from the
target. -/
def execHelmDemand (t : Nat) (p : Port) (s : State) : Host.Outcome State Fault Refusal :=
  event t (State.onDelivery p .helmDemand (fun q => State.takeDemand .helmDemand .steer (State.helmDemand q) q)) s

/-- TAKE_COMMAND (R38): A station's request to take PROP or STEER, accepted or refused NO_RIGHT or MISMATCH, with
COMMAND_STATE queued. -/
def execTakeCommand (t : Nat) (p : Port) (s : State) : Host.Outcome State Fault Refusal :=
  event t (State.onDelivery p .takeCommand State.takeCommand) s

/-- RELEASE_COMMAND (R41): the station in command gives up a job, which begins or continues a loss. -/
def execReleaseCommand (t : Nat) (p : Port) (s : State) : Host.Outcome State Fault Refusal :=
  event t (State.onDelivery p .releaseCommand State.releaseCommand) s

/-- DEMAND_TIMEOUT_EXPIRY (R42): the station in command has not been heard within the demand timeout, and the job
goes to HOLDING. -/
def execDemandTimeoutExpiry (t : Nat) (j : Job) (s : State) : Host.Outcome State Fault Refusal :=
  event t (State.timeoutExpires j) s

/-- COMMAND_HOLD_EXPIRY (R43): A job's hold expires: the job goes to LOST, COMMAND_LOSS is raised, and idle ceilings
are posted or the helm is centred. -/
def execCommandHoldExpiry (t : Nat) (j : Job) (s : State) : Host.Outcome State Fault Refusal :=
  event t (State.holdExpires j) s

/-- COMMAND_STATE_PERIOD (R45): 1,000 ms after the last COMMAND_STATE a fresh COMMAND_STATE is queued on B. -/
def execCommandStatePeriod (t : Nat) (s : State) : Host.Outcome State Fault Refusal :=
  event t State.commandStateDue s

end Sys2Proof.Machine
end

