-- ==== Sys2Proof/Machine/DriveSteps.lean ====
section
/-!
DEFINITION. The steps of the lane sequencer, the step-group ramp and the steering allocator (chapters 4 to 6).
-/

namespace Sys2Proof.Machine

/-- ENGINE_STATUS (R53): an engine report updates the lane's reported speed and alarm and, in COORDINATING, adopts,
confirms, faults, stops or recovers the lane. -/
def execEngineStatus (t : Nat) (p : Port) (s : State) : Host.Outcome State Fault Refusal :=
  event t (State.onDelivery p .engineStatus State.takeEngine) s

/-- LANE_STATUS_TIMEOUT (R57): A lane's status timer expires and the lane goes to FAULT with STATUS_LOST. -/
def execLaneStatusTimeout (t : Nat) (l : Fin 4) (s : State) : Host.Outcome State Fault Refusal :=
  event t (State.laneSilent l) s

/-- CLUTCH_CONFIRM_TIMEOUT (R61): the clutch confirm timer expires in ENGAGING and the lane faults with
ENGAGE_TIMEOUT. -/
def execClutchConfirmTimeout (t : Nat) (l : Fin 4) (s : State) : Host.Outcome State Fault Refusal :=
  event t (State.clutchExpires l) s

/-- NEUTRAL_CONFIRM_TIMEOUT (R63): the neutral confirm timer expires in DECLUTCH and the lane faults with
DISENGAGE_TIMEOUT. -/
def execNeutralConfirmTimeout (t : Nat) (l : Fin 4) (s : State) : Host.Outcome State Fault Refusal :=
  event t (State.neutralExpires l) s

/-- DWELL_EXPIRY (R60): A lane's dwell timer expires with an engagement pending, and the lane enters ENGAGING toward
the pending direction. -/
def execDwellExpiry (t : Nat) (l : Fin 4) (s : State) : Host.Outcome State Fault Refusal :=
  event t (State.dwellExpires l) s

/-- KICK_TIMER_EXPIRY (R70): A kick's time runs out and the lane goes to DISENGAGING RAMPDOWN with target NEUTRAL. -/
def execKickTimerExpiry (t : Nat) (l : Fin 4) (s : State) : Host.Outcome State Fault Refusal :=
  event t (State.kickExpires l) s

/-- RAMP_TIMER_EXPIRY (R65): every 100 ms an out-of-step engaged lane's applied setpoint steps toward its goal at its
ramp-up, ramp-down or crash step. -/
def execRampTimerExpiry (t : Nat) (l : Fin 4) (s : State) : Host.Outcome State Fault Refusal :=
  event t (State.rampExpires l) s

/-- LANE_REFRESH_EXPIRY (R68): the lane's refresh period passes since its last governor order, and the order is
repeated. -/
def execLaneRefreshExpiry (t : Nat) (l : Fin 4) (s : State) : Host.Outcome State Fault Refusal :=
  event t (State.laneRefreshes l) s

/-- LANE_SUMMARY_PERIOD (R74): 1,000 ms after a lane's last LANE_SUMMARY, a new summary is queued. -/
def execLaneSummaryPeriod (t : Nat) (l : Fin 4) (s : State) : Host.Outcome State Fault Refusal :=
  event t (State.laneSummaryDue l) s

/-- GROUP_RAMP_EXPIRY (R86): every 100 ms the group point rises, is held, falls or gathers toward idle, and every
riding member is written the point. -/
def execGroupRampExpiry (t : Nat) (g : Fin 2) (s : State) : Host.Outcome State Fault Refusal :=
  event t (State.groupRamp g) s

/-- GROUP_HOLD_EXPIRY (R87): the group hold timer expires: members still lagging leave with OUT_OF_STEP raised. -/
def execGroupHoldExpiry (t : Nat) (g : Fin 2) (s : State) : Host.Outcome State Fault Refusal :=
  event t (State.groupHold g) s

/-- STEER_STATUS (R104): an actuator report updates its position and alarm and, in COORDINATING, adopts the actuator,
restarts its timer or recovers it from FAULT. -/
def execSteerStatus (t : Nat) (p : Port) (s : State) : Host.Outcome State Fault Refusal :=
  event t (State.onDelivery p .steerStatus State.takeSteer) s

/-- ACTUATOR_RATE_EXPIRY (R102): every 100 ms a TRACKING actuator's commanded value moves toward its target by at
most its rate. -/
def execActuatorRateExpiry (t : Nat) (a : Fin 8) (s : State) : Host.Outcome State Fault Refusal :=
  event t (State.actRate a) s

/-- ACTUATOR_REFRESH_EXPIRY (R103): the actuator's refresh period passes since its last order, and the steering order
is repeated. -/
def execActuatorRefreshExpiry (t : Nat) (a : Fin 8) (s : State) : Host.Outcome State Fault Refusal :=
  event t (State.actRefresh a) s

/-- ACTUATOR_STATUS_TIMEOUT (R105): an actuator's status timer expires: it enters FAULT and STEER_ACTUATOR_FAULT is
raised. -/
def execActuatorStatusTimeout (t : Nat) (a : Fin 8) (s : State) : Host.Outcome State Fault Refusal :=
  event t (State.actTimeout a) s

/-- HELM_SUMMARY_PERIOD (R107): 1,000 ms after the last HELM_SUMMARY a new one is queued. -/
def execHelmSummaryPeriod (t : Nat) (s : State) : Host.Outcome State Fault Refusal :=
  event t State.helmSummaryDue s

end Sys2Proof.Machine
end

