-- ==== Sys2Proof/Machine/FuelSteps.lean ====
section
/-!
DEFINITION. The steps of the fuel accounting unit and the transfer controller (chapters 8 and 9).
-/

namespace Sys2Proof.Machine

/-- METER_READING (R133): A meter reading moves the channel's baselines and converts the pulses to mass, which is
charged, handed to the transfer controller, or counted as unassigned. -/
def execMeterReading (t : Nat) (p : Port) (s : State) : Host.Outcome State Fault Refusal :=
  event t (State.onDelivery p .meterReading State.takeReading) s

/-- METER_TIMER_EXPIRY (R140): A channel falls silent for its timeout: the lost count rises, METER_LOST is raised,
and the transfer controller is told. -/
def execMeterTimerExpiry (t : Nat) (ch : Fin 8) (s : State) : Host.Outcome State Fault Refusal :=
  event t (State.meterExpires ch) s

/-- PUMP_STATUS (R147): A report from the active transfer's pump moves the transfer between STARTING, RUNNING and
STOPPING, or sets or clears the pump-stopped flag. -/
def execPumpStatus (t : Nat) (p : Port) (s : State) : Host.Outcome State Fault Refusal :=
  event t (State.onDelivery p .pumpStatus State.takePump) s

/-- TRANSFER_START_TIMEOUT (R148): the pump has not reported RUNNING within 10,000 ms, and the transfer stops with
PUMP_FAULT. -/
def execTransferStartTimeout (t : Nat) (s : State) : Host.Outcome State Fault Refusal :=
  event t State.startExpires s

/-- TRANSFER_STOP_TIMEOUT (R151): the stop timer expires 10,000 ms after the stop order, ending SUSPENDING or
STOPPING. -/
def execTransferStopTimeout (t : Nat) (s : State) : Host.Outcome State Fault Refusal :=
  event t State.stopExpires s

/-- TRANSFER_REPEAT_EXPIRY (R148): 1,000 ms after the transfer's last pump order, the START or STOP order is queued
again. -/
def execTransferRepeatExpiry (t : Nat) (s : State) : Host.Outcome State Fault Refusal :=
  event t State.pumpRepeats s

end Sys2Proof.Machine
end

