-- ==== Sys2Proof/Machine/RequestSteps.lean ====
section
/-!
DEFINITION. The other requests, each a step of its own (R159 to R161, R164, R165 and the rules of chapters 5, 8 and 9), and the two
resets.
-/

namespace Sys2Proof.Machine

/-- UNKNOWN_REQUEST (R159): A complete request with an unnumbered request code is answered UNKNOWN_REQUEST and
changes no state other than the arming record. -/
def execUnknownRequest (t : Nat) (s : State) : Host.Outcome State Fault Refusal :=
  event t (State.onRequest .unknown (fun source m => State.execute .unknown (fun s => s.refuses .unknownRequest) source m)) s

/-- IDENTIFY (R160): returns the vendor code, part code, revision, node number and device mode. -/
def execIdentify (t : Nat) (s : State) : Host.Outcome State Fault Refusal :=
  event t (State.onRequest .identify (fun source m => State.execute .identify (State.identify m) source m)) s

/-- READ_STATUS (R160): returns the selected status section: device, command, groups, couplings or soundings. -/
def execReadStatus (t : Nat) (s : State) : Host.Outcome State Fault Refusal :=
  event t (State.onRequest .readStatus (fun source m => State.execute .readStatus (State.readStatus m) source m)) s

/-- ENGAGE (R161): takes the part from PASS_THROUGH to COORDINATING if the route table and lane table are configured. -/
def execEngage (t : Nat) (s : State) : Host.Outcome State Fault Refusal :=
  event t (State.onRequest .engage (fun source m => State.execute .engage (State.engageMode m) source m)) s

/-- DISENGAGE (R161): returns the part to PASS_THROUGH unless a transfer slot is occupied. -/
def execDisengage (t : Nat) (s : State) : Host.Outcome State Fault Refusal :=
  event t (State.onRequest .disengage (fun source m => State.execute .disengage (State.disengage m) source m)) s

/-- LAY_UP (R161): takes the part from COORDINATING to LAID_UP if no lane is active. -/
def execLayUp (t : Nat) (s : State) : Host.Outcome State Fault Refusal :=
  event t (State.onRequest .layUp (fun source m => State.execute .layUp (State.layUp m) source m)) s

/-- WAKE (R161): takes the part from LAID_UP to COORDINATING. -/
def execWake (t : Nat) (s : State) : Host.Outcome State Fault Refusal :=
  event t (State.onRequest .wake (fun source m => State.execute .wake (State.wake m) source m)) s

/-- SET_CAP (R77): posts or removes a lane's MGMT_CAP ceiling entry. -/
def execSetCap (t : Nat) (s : State) : Host.Outcome State Fault Refusal :=
  event t (State.onRequest .setCap (fun source m => State.execute .setCap (State.setCap m) source m)) s

/-- OPEN_TANK (R130): sets a tank's opening content and content, zeroes its totals, makes the tank defined and
evaluates its reserve afresh. -/
def execOpenTank (t : Nat) (s : State) : Host.Outcome State Fault Refusal :=
  event t (State.onRequest .openTank (fun source m => State.execute .openTank (State.openTank m) source m)) s

/-- ADJUST_TANK (R156): sets a tank's content to a given mass and records the difference in its adjustment total. -/
def execAdjustTank (t : Nat) (s : State) : Host.Outcome State Fault Refusal :=
  event t (State.onRequest .adjustTank (fun source m => State.execute .adjustTank (State.adjustTankRequest m) source m)) s

/-- READ_TANK (R129): returns a tank's definition, defined flag, account fields and at-reserve flag. -/
def execReadTank (t : Nat) (s : State) : Host.Outcome State Fault Refusal :=
  event t (State.onRequest .readTank (fun source m => State.execute .readTank (State.readTank m) source m)) s

/-- TRANSFER (R144): tests a transfer request and places it in the ACTIVE slot, where it starts, or in the PENDING
slot, answering with its transfer number. -/
def execTransfer (t : Nat) (s : State) : Host.Outcome State Fault Refusal :=
  event t (State.onRequest .transfer (fun source m => State.execute .transfer (State.transfer m) source m)) s

/-- CANCEL_TRANSFER (R153): cancels a transfer: a PENDING or SUSPENDED record closes at once, and a running one goes
to STOPPING with CANCELLED. -/
def execCancelTransfer (t : Nat) (s : State) : Host.Outcome State Fault Refusal :=
  event t (State.onRequest .cancelTransfer (fun source m => State.execute .cancelTransfer (State.cancelTransfer m) source m)) s

/-- SUSPEND_TRANSFER (R152): takes a RUNNING active transfer to SUSPENDING, queuing a stop order. -/
def execSuspendTransfer (t : Nat) (s : State) : Host.Outcome State Fault Refusal :=
  event t (State.onRequest .suspendTransfer (fun source m => State.execute .suspendTransfer (State.suspendTransfer m) source m)) s

/-- RESUME_TRANSFER (R152): restarts a SUSPENDED active transfer if its hose couplings are made fast. -/
def execResumeTransfer (t : Nat) (s : State) : Host.Outcome State Fault Refusal :=
  event t (State.onRequest .resumeTransfer (fun source m => State.execute .resumeTransfer (State.resumeTransfer m) source m)) s

/-- READ_TRANSFER (R143): returns both transfer slots, the last closed record and the next transfer number. -/
def execReadTransfer (t : Nat) (s : State) : Host.Outcome State Fault Refusal :=
  event t (State.onRequest .readTransfer (fun source m => State.execute .readTransfer (State.readTransfer m) source m)) s

/-- SOUNDING (R154): enters or replaces a tank's sounding in the sounding list. -/
def execSounding (t : Nat) (s : State) : Host.Outcome State Fault Refusal :=
  event t (State.onRequest .sounding (fun source m => State.execute .sounding (State.sounding m) source m)) s

/-- RECONCILE (R155): walks the sounding list, adjusting tanks within the tolerance and skipping active transfer
ends, and halts at the first tank outside the tolerance. -/
def execReconcile (t : Nat) (s : State) : Host.Outcome State Fault Refusal :=
  event t (State.onRequest .reconcile (fun source m => State.execute .reconcile (State.reconcile m) source m)) s

/-- READ_EVENTS (R164): returns event flags from a given number on, with their state, mask, count and detail. -/
def execReadEvents (t : Nat) (s : State) : Host.Outcome State Fault Refusal :=
  event t (State.onRequest .readEvents (fun source m => State.execute .readEvents (State.readEvents m) source m)) s

/-- CLEAR_EVENTS (R164): clears the named flags, zeroing their counts and details. -/
def execClearEvents (t : Nat) (s : State) : Host.Outcome State Fault Refusal :=
  event t (State.onRequest .clearEvents (fun source m => State.execute .clearEvents (State.clearEvents m) source m)) s

/-- SET_MASK (R164): replaces the whole event mask. -/
def execSetMask (t : Nat) (s : State) : Host.Outcome State Fault Refusal :=
  event t (State.onRequest .setMask (fun source m => State.execute .setMask (State.setMask m) source m)) s

/-- READ_COUNTERS (R30): returns the seven counters of the selected port and the unrouted counter. -/
def execReadCounters (t : Nat) (s : State) : Host.Outcome State Fault Refusal :=
  event t (State.onRequest .readCounters (fun source m => State.execute .readCounters (State.readCounters m) source m)) s

/-- RESET_ARM (R165): arms a command reset for the source, with a 5,000 ms window. -/
def execResetArm (t : Nat) (s : State) : Host.Outcome State Fault Refusal :=
  event t (State.onRequest .resetArm (fun source m => State.execute .resetArm (State.resetArm source) source m)) s

/-- RESET (R165): performs a command reset if the arming record holds the source, and otherwise answers NOT_ARMED. -/
def execReset (t : Nat) (s : State) : Host.Outcome State Fault Refusal :=
  event t (State.onRequest .reset (fun source m => State.execute .reset (State.resetRequest source) source m)) s

/-- RESET_ARM_EXPIRY (R165): the arming window expires and the arming record becomes absent, without reply or event. -/
def execResetArmExpiry (t : Nat) (s : State) : Host.Outcome State Fault Refusal :=
  event t State.armingExpires s

/-- POWER_ON_RESET (R167, R170): on supply rise with the line released, or on release of the reset line with the supply
in range, every block takes its power-on state, the straps are read and the mode is PASS_THROUGH. -/
def execPowerOnReset (t : Nat) (cause : HoldEnd) (s : State) : Host.Outcome State Fault Refusal :=
  .next ((s.at t).endHold cause)

/-- RESET_LINE_ASSERTED (R170): while the reset line is asserted for 10 ms or more, or the supply is below 15 V, the
part is held in reset, drives nothing and keeps no state. -/
def execResetLineAsserted (t : Nat) (cause : HoldCause) (s : State) : Host.Outcome State Fault Refusal :=
  .next ((s.at t).holdInReset cause)

end Sys2Proof.Machine
end

