-- ==== Sys2Proof/WellFormed.lean ====
section
/-!
DEFINITION. Well-formed commands. An operand's type already bounds every index; what remains to be checked is that the
frame of FRAME_RECEIVED can be a CAN frame at all.
-/

namespace Sys2Proof

/-- The data field of a CAN frame holds 0 to 8 bytes (section 1.1). -/
def WireFrame.dataFits (f : WireFrame) : Bool := decide (f.data.length ≤ 8)

/-- A standard identifier has 11 bits (section 1.1: extended or standard), so its upper bits are clear. -/
def WireFrame.identFits (f : WireFrame) : Bool := f.extended || decide (f.ident.toNat < 2048)

/-- A frame that can stand on a segment. -/
def WireFrame.wf (f : WireFrame) : Bool := f.dataFits && f.identFits

/-- Well-formed commands: FRAME_RECEIVED carries a frame that can stand on a segment. -/
def Instr.wf : Instr → Bool
  | .frameReceived _ _ f => f.wf
  | _ => true

end Sys2Proof
end

