-- ==== Sys2Proof/Machine/SwitchSteps.lean ====
section
/-!
DEFINITION. The steps of the frame switch and of reassembly (chapters 1 and 2).
-/

namespace Sys2Proof.Machine

/-- FRAME_RECEIVED (R14): A frame received whole on a port is counted and placed at the tail of that port's ingress
queue with its arrival time, or dropped if the queue is full. -/
def execFrameReceived (t : Nat) (p : Port) (f : WireFrame) (s : State) : Host.Outcome State Fault Refusal :=
  event t (fun s => if f.wf then s.receive p (receivedOf f s.now) else s) s

/-- CLASSIFY_FRAME (R15): A port's classification takes the frame at the head of its ingress queue and deals with it
whole under the mode and route table then in force; this row covers frames that are forwarded or dropped without
delivery to an owner. -/
def execClassifyFrame (t : Nat) (p : Port) (s : State) : Host.Outcome State Fault Refusal :=
  event t (State.classifyHead p) s

/-- SEGMENT_TAKES_FRAME (R27): when a segment is ready, it takes the oldest frame of the lowest class from the port's
egress queue, and the congestion mark is re-armed once the depth falls to 24. -/
def execSegmentTakesFrame (t : Nat) (p : Port) (s : State) : Host.Outcome State Fault Refusal :=
  event t (State.sendFrame p) s

/-- MGMT_REQUEST_PART (R10): A MGMT_REQUEST part addressed to the part on B goes through reassembly: it opens,
restarts, extends, completes or discards a slot, or is answered BUSY or PART_ERROR. -/
def execMgmtRequestPart (t : Nat) (p : Port) (s : State) : Host.Outcome State Fault Refusal :=
  event t (State.onRequestPart p) s

/-- ASSEMBLY_TIMER_EXPIRY (R12): an OPEN slot's 500 ms assembly timer expires: the slot is discarded without reply,
malformed is counted on B and PART_ERROR is raised. -/
def execAssemblyTimerExpiry (t : Nat) (slot : Fin 2) (s : State) : Host.Outcome State Fault Refusal :=
  event t (State.assemblyExpires slot) s

end Sys2Proof.Machine
end

