-- ==== Sys2Proof/Machine/TableSteps.lean ====
section
/-!
DEFINITION. The requests about tables and banks, each a step of its own: the part at the head of port B completes the request,
which is executed and answered in the same event (R159).
-/

namespace Sys2Proof.Machine

/-- READ_ROW (R159): returns a row of the named table, with its associated state, or says that the row is empty. -/
def execReadRow (t : Nat) (s : State) : Host.Outcome State Fault Refusal :=
  event t (State.onRequest .readRow (fun source m => State.execute .readRow (State.readRow m) source m)) s

/-- LOAD_ROUTE_ENTRY (R19): loads a route entry by key: it is inserted, or it replaces the entry with that key and
resets its hit counter and last forward time, or it is refused RANGE. -/
def execLoadRouteEntry (t : Nat) (s : State) : Host.Outcome State Fault Refusal :=
  event t (State.onRequest .loadRoute (fun source m => State.execute .loadRoute (State.loadRoute m) source m)) s

/-- LOAD_STATION_ROW (R32): replaces a station row and sets its refusal count to 0, unless refused RANGE or
ROW_IN_USE. -/
def execLoadStationRow (t : Nat) (s : State) : Host.Outcome State Fault Refusal :=
  event t (State.onRequest .loadStation (fun source m => State.execute .loadStation (State.loadStation m) source m)) s

/-- LOAD_TIMING_ROW (R33): loads the demand timeout and hold time, which apply at once to the running timers of both
jobs. -/
def execLoadTimingRow (t : Nat) (s : State) : Host.Outcome State Fault Refusal :=
  event t (State.onRequest .loadTiming (fun source m => State.execute .loadTiming (State.loadTiming m) source m)) s

/-- LOAD_LANE_ROW (R48): replaces a lane row, puts the lane in UNSYNCED at its reset values and brings the kept
ceiling entries into line, unless refused RANGE or BAD_STATE. -/
def execLoadLaneRow (t : Nat) (s : State) : Host.Outcome State Fault Refusal :=
  event t (State.onRequest .loadLane (fun source m => State.execute .loadLane (State.loadLane m) source m)) s

/-- LOAD_GROUP_ROW (R81): replaces a group row's step tolerance and hold limit, and a running hold timer is re-timed. -/
def execLoadGroupRow (t : Nat) (s : State) : Host.Outcome State Fault Refusal :=
  event t (State.onRequest .loadGroup (fun source m => State.execute .loadGroup (State.loadGroup m) source m)) s

/-- LOAD_ACTUATOR_ROW (R92): replaces an actuator row and puts the actuator record at its reset values, starting its
status timer in COORDINATING, unless refused RANGE or BAD_STATE. -/
def execLoadActuatorRow (t : Nat) (s : State) : Host.Outcome State Fault Refusal :=
  event t (State.onRequest .loadActuator (fun source m => State.execute .loadActuator (State.loadActuator m) source m)) s

/-- LOAD_BANK_ROW (R95): loads three gains into a row of the standby bank and clears its complete flag; a load naming
the active bank is refused ROW_IN_USE. -/
def execLoadBankRow (t : Nat) (s : State) : Host.Outcome State Fault Refusal :=
  event t (State.onRequest .loadBank (fun source m => State.execute .loadBank (State.loadBank m) source m)) s

/-- LOAD_COUPLING_ROW (R108): replaces a coupling row, puts the coupling UNSYNCED and locked, and hands the change
on, unless refused RANGE or BAD_STATE. -/
def execLoadCouplingRow (t : Nat) (s : State) : Host.Outcome State Fault Refusal :=
  event t (State.onRequest .loadCoupling (fun source m => State.execute .loadCoupling (State.loadCoupling m) source m)) s

/-- LOAD_TANK_ROW (R128): replaces a tank definition and keeps its account, re-evaluating the reserve of a defined
tank, unless refused RANGE or TRANSFER_ACTIVE. -/
def execLoadTankRow (t : Nat) (s : State) : Host.Outcome State Fault Refusal :=
  event t (State.onRequest .loadTank (fun source m => State.execute .loadTank (State.loadTank m) source m)) s

/-- LOAD_METER_CHANNEL_ROW (R132): replaces a meter channel row, resets its record to power-on values and starts its
meter timer. -/
def execLoadMeterChannelRow (t : Nat) (s : State) : Host.Outcome State Fault Refusal :=
  event t (State.onRequest .loadChannel (fun source m => State.execute .loadChannel (State.loadChannel m) source m)) s

/-- CLEAR_ROUTE_TABLE (R20): removes every route entry. -/
def execClearRouteTable (t : Nat) (s : State) : Host.Outcome State Fault Refusal :=
  event t (State.onRequest .clearRoutes (fun source m => State.execute .clearRoutes (State.clearRoutes m) source m)) s

/-- CLEAR_STATION_TABLE (R32): empties the four station rows unless either job has a station in command. -/
def execClearStationTable (t : Nat) (s : State) : Host.Outcome State Fault Refusal :=
  event t (State.onRequest .clearStations (fun source m => State.execute .clearStations (State.clearStations m) source m)) s

/-- CLEAR_LANE_TABLE (R49): empties all lane rows, lane records and ceiling records unless a lane is active. -/
def execClearLaneTable (t : Nat) (s : State) : Host.Outcome State Fault Refusal :=
  event t (State.onRequest .clearLanes (fun source m => State.execute .clearLanes (State.clearLanes m) source m)) s

/-- CLEAR_GROUP_TABLE (R81): empties both group rows unless an in-step set is not empty. -/
def execClearGroupTable (t : Nat) (s : State) : Host.Outcome State Fault Refusal :=
  event t (State.onRequest .clearGroups (fun source m => State.execute .clearGroups (State.clearGroups m) source m)) s

/-- CLEAR_ACTUATOR_TABLE (R93): empties the actuator table and records unless an actuator is TRACKING. -/
def execClearActuatorTable (t : Nat) (s : State) : Host.Outcome State Fault Refusal :=
  event t (State.onRequest .clearActuators (fun source m => State.execute .clearActuators (State.clearActuators m) source m)) s

/-- CLEAR_BANK (R98): empties the standby bank and clears its complete flag; a clear naming the active bank is
refused ROW_IN_USE. -/
def execClearBank (t : Nat) (s : State) : Host.Outcome State Fault Refusal :=
  event t (State.onRequest .clearBank (fun source m => State.execute .clearBank (State.clearBank m) source m)) s

/-- CLEAR_COUPLING_TABLE (R109): empties the coupling table and records and hands the change on, unless a coupling is
working. -/
def execClearCouplingTable (t : Nat) (s : State) : Host.Outcome State Fault Refusal :=
  event t (State.onRequest .clearCouplings (fun source m => State.execute .clearCouplings (State.clearCouplings m) source m)) s

/-- CLEAR_TANK_TABLE (R129): empties all tanks and their accounts, clears the reserve flags and FUEL_RESERVE entries,
and empties the sounding list, unless a transfer slot is occupied. -/
def execClearTankTable (t : Nat) (s : State) : Host.Outcome State Fault Refusal :=
  event t (State.onRequest .clearTanks (fun source m => State.execute .clearTanks (State.clearTanks m) source m)) s

/-- CLEAR_METER_CHANNEL_TABLE (R132): empties all meter channels and stops their timers unless a transfer slot is
occupied. -/
def execClearMeterChannelTable (t : Nat) (s : State) : Host.Outcome State Fault Refusal :=
  event t (State.onRequest .clearChannels (fun source m => State.execute .clearChannels (State.clearChannels m) source m)) s

/-- CLOSE_BANK (R96): sets the standby bank's complete flag if its row count equals n and it covers every loaded
actuator; otherwise answers INCOMPLETE_BANK. -/
def execCloseBank (t : Nat) (s : State) : Host.Outcome State Fault Refusal :=
  event t (State.onRequest .closeBank (fun source m => State.execute .closeBank (State.closeBank m) source m)) s

/-- SWAP_BANK (R97): exchanges the active and standby banks, re-evaluates every actuator and raises BANK_SWAPPED. -/
def execSwapBank (t : Nat) (s : State) : Host.Outcome State Fault Refusal :=
  event t (State.onRequest .swapBank (fun source m => State.execute .swapBank (State.swapBank m) source m)) s

end Sys2Proof.Machine
end

