-- ==== Sys2Proof/Machine/Dispatch.lean ====
section
/-!
DEFINITION. One arm per command: each one direct call of its meaning.
-/

namespace Sys2Proof.Machine

def exec (i : Instr) (s : State) : Host.Outcome State Fault Refusal :=
  match i with
  | .frameReceived t p f => Sys2Proof.Machine.execFrameReceived t p f s
  | .classifyFrame t p => Sys2Proof.Machine.execClassifyFrame t p s
  | .segmentTakesFrame t p => Sys2Proof.Machine.execSegmentTakesFrame t p s
  | .mgmtRequestPart t p => Sys2Proof.Machine.execMgmtRequestPart t p s
  | .assemblyTimerExpiry t slot => Sys2Proof.Machine.execAssemblyTimerExpiry t slot s
  | .unknownRequest t => Sys2Proof.Machine.execUnknownRequest t s
  | .identify t => Sys2Proof.Machine.execIdentify t s
  | .readStatus t => Sys2Proof.Machine.execReadStatus t s
  | .readRow t => Sys2Proof.Machine.execReadRow t s
  | .loadRouteEntry t => Sys2Proof.Machine.execLoadRouteEntry t s
  | .loadStationRow t => Sys2Proof.Machine.execLoadStationRow t s
  | .loadTimingRow t => Sys2Proof.Machine.execLoadTimingRow t s
  | .loadLaneRow t => Sys2Proof.Machine.execLoadLaneRow t s
  | .loadGroupRow t => Sys2Proof.Machine.execLoadGroupRow t s
  | .loadActuatorRow t => Sys2Proof.Machine.execLoadActuatorRow t s
  | .loadBankRow t => Sys2Proof.Machine.execLoadBankRow t s
  | .loadCouplingRow t => Sys2Proof.Machine.execLoadCouplingRow t s
  | .loadTankRow t => Sys2Proof.Machine.execLoadTankRow t s
  | .loadMeterChannelRow t => Sys2Proof.Machine.execLoadMeterChannelRow t s
  | .clearRouteTable t => Sys2Proof.Machine.execClearRouteTable t s
  | .clearStationTable t => Sys2Proof.Machine.execClearStationTable t s
  | .clearLaneTable t => Sys2Proof.Machine.execClearLaneTable t s
  | .clearGroupTable t => Sys2Proof.Machine.execClearGroupTable t s
  | .clearActuatorTable t => Sys2Proof.Machine.execClearActuatorTable t s
  | .clearBank t => Sys2Proof.Machine.execClearBank t s
  | .clearCouplingTable t => Sys2Proof.Machine.execClearCouplingTable t s
  | .clearTankTable t => Sys2Proof.Machine.execClearTankTable t s
  | .clearMeterChannelTable t => Sys2Proof.Machine.execClearMeterChannelTable t s
  | .closeBank t => Sys2Proof.Machine.execCloseBank t s
  | .swapBank t => Sys2Proof.Machine.execSwapBank t s
  | .engage t => Sys2Proof.Machine.execEngage t s
  | .disengage t => Sys2Proof.Machine.execDisengage t s
  | .layUp t => Sys2Proof.Machine.execLayUp t s
  | .wake t => Sys2Proof.Machine.execWake t s
  | .setCap t => Sys2Proof.Machine.execSetCap t s
  | .openTank t => Sys2Proof.Machine.execOpenTank t s
  | .adjustTank t => Sys2Proof.Machine.execAdjustTank t s
  | .readTank t => Sys2Proof.Machine.execReadTank t s
  | .transfer t => Sys2Proof.Machine.execTransfer t s
  | .cancelTransfer t => Sys2Proof.Machine.execCancelTransfer t s
  | .suspendTransfer t => Sys2Proof.Machine.execSuspendTransfer t s
  | .resumeTransfer t => Sys2Proof.Machine.execResumeTransfer t s
  | .readTransfer t => Sys2Proof.Machine.execReadTransfer t s
  | .sounding t => Sys2Proof.Machine.execSounding t s
  | .reconcile t => Sys2Proof.Machine.execReconcile t s
  | .readEvents t => Sys2Proof.Machine.execReadEvents t s
  | .clearEvents t => Sys2Proof.Machine.execClearEvents t s
  | .setMask t => Sys2Proof.Machine.execSetMask t s
  | .readCounters t => Sys2Proof.Machine.execReadCounters t s
  | .resetArm t => Sys2Proof.Machine.execResetArm t s
  | .reset t => Sys2Proof.Machine.execReset t s
  | .resetArmExpiry t => Sys2Proof.Machine.execResetArmExpiry t s
  | .powerOnReset t cause => Sys2Proof.Machine.execPowerOnReset t cause s
  | .resetLineAsserted t cause => Sys2Proof.Machine.execResetLineAsserted t cause s
  | .speedDemand t p => Sys2Proof.Machine.execSpeedDemand t p s
  | .neutralDemand t p => Sys2Proof.Machine.execNeutralDemand t p s
  | .kickDemand t p => Sys2Proof.Machine.execKickDemand t p s
  | .crashAstern t p => Sys2Proof.Machine.execCrashAstern t p s
  | .groupDemand t p => Sys2Proof.Machine.execGroupDemand t p s
  | .helmDemand t p => Sys2Proof.Machine.execHelmDemand t p s
  | .takeCommand t p => Sys2Proof.Machine.execTakeCommand t p s
  | .releaseCommand t p => Sys2Proof.Machine.execReleaseCommand t p s
  | .demandTimeoutExpiry t j => Sys2Proof.Machine.execDemandTimeoutExpiry t j s
  | .commandHoldExpiry t j => Sys2Proof.Machine.execCommandHoldExpiry t j s
  | .commandStatePeriod t => Sys2Proof.Machine.execCommandStatePeriod t s
  | .engineStatus t p => Sys2Proof.Machine.execEngineStatus t p s
  | .laneStatusTimeout t l => Sys2Proof.Machine.execLaneStatusTimeout t l s
  | .clutchConfirmTimeout t l => Sys2Proof.Machine.execClutchConfirmTimeout t l s
  | .neutralConfirmTimeout t l => Sys2Proof.Machine.execNeutralConfirmTimeout t l s
  | .dwellExpiry t l => Sys2Proof.Machine.execDwellExpiry t l s
  | .kickTimerExpiry t l => Sys2Proof.Machine.execKickTimerExpiry t l s
  | .rampTimerExpiry t l => Sys2Proof.Machine.execRampTimerExpiry t l s
  | .laneRefreshExpiry t l => Sys2Proof.Machine.execLaneRefreshExpiry t l s
  | .laneSummaryPeriod t l => Sys2Proof.Machine.execLaneSummaryPeriod t l s
  | .groupRampExpiry t g => Sys2Proof.Machine.execGroupRampExpiry t g s
  | .groupHoldExpiry t g => Sys2Proof.Machine.execGroupHoldExpiry t g s
  | .steerStatus t p => Sys2Proof.Machine.execSteerStatus t p s
  | .actuatorRateExpiry t a => Sys2Proof.Machine.execActuatorRateExpiry t a s
  | .actuatorRefreshExpiry t a => Sys2Proof.Machine.execActuatorRefreshExpiry t a s
  | .actuatorStatusTimeout t a => Sys2Proof.Machine.execActuatorStatusTimeout t a s
  | .helmSummaryPeriod t => Sys2Proof.Machine.execHelmSummaryPeriod t s
  | .winchStatus t p => Sys2Proof.Machine.execWinchStatus t p s
  | .couplingStatusTimeout t c => Sys2Proof.Machine.execCouplingStatusTimeout t c s
  | .slackTimerExpiry t c => Sys2Proof.Machine.execSlackTimerExpiry t c s
  | .couplingOperationTimeout t c => Sys2Proof.Machine.execCouplingOperationTimeout t c s
  | .couplingRepeatExpiry t c => Sys2Proof.Machine.execCouplingRepeatExpiry t c s
  | .couplingSummaryPeriod t c => Sys2Proof.Machine.execCouplingSummaryPeriod t c s
  | .makeUp t p => Sys2Proof.Machine.execMakeUp t p s
  | .ease t p => Sys2Proof.Machine.execEase t p s
  | .release t p => Sys2Proof.Machine.execRelease t p s
  | .lock t p => Sys2Proof.Machine.execLock t p s
  | .unlock t p => Sys2Proof.Machine.execUnlock t p s
  | .lockAll t p => Sys2Proof.Machine.execLockAll t p s
  | .unlockAll t p => Sys2Proof.Machine.execUnlockAll t p s
  | .permit t p => Sys2Proof.Machine.execPermit t p s
  | .permitExpiry t => Sys2Proof.Machine.execPermitExpiry t s
  | .meterReading t p => Sys2Proof.Machine.execMeterReading t p s
  | .meterTimerExpiry t ch => Sys2Proof.Machine.execMeterTimerExpiry t ch s
  | .pumpStatus t p => Sys2Proof.Machine.execPumpStatus t p s
  | .transferStartTimeout t => Sys2Proof.Machine.execTransferStartTimeout t s
  | .transferStopTimeout t => Sys2Proof.Machine.execTransferStopTimeout t s
  | .transferRepeatExpiry t => Sys2Proof.Machine.execTransferRepeatExpiry t s

end Sys2Proof.Machine
end

