-- ==== Sys2Proof/Machine/Step.lean ====
section
/-!
DEFINITION. One step of the machine: the command at the front of the queue is taken and executed; on an empty queue the part
idles (assumption log 2).
-/

namespace Sys2Proof.Machine

/-- The command at the front of the queue, with the state whose queue holds the rest. -/
def State.front (s : State) : Option (Instr × State) :=
  match s.pending with
  | [] => none
  | c :: rest => some (c, { s with pending := rest })

/-- One step. -/
def step (s : State) : Host.Outcome State Fault Refusal :=
  match s.front with
  | some (c, s1) => exec c s1
  | none => .next s

/-- The state with the command that a word spells put at the front of its queue; no word spells one (assumption log 26). -/
def State.withFetchWord (s : State) (nbits w : Nat) : State :=
  match decodeTableWord nbits w with
  | some c => { s with pending := c :: s.pending }
  | none => s

end Sys2Proof.Machine
end

