-- ==== Sys2Proof/Safety.lean ====
section
/-!
DEFINITION. The terms that statements about the part are made in: what a step answers, what frames and summaries may change,
the laws of the device as predicates on a state, and the situations a command is taken in.
-/

namespace Sys2Proof.Machine

/-! ## What a step answers -/

/-- The step answers a next state of which `P` holds. -/
def Answers (o : Host.Outcome State Fault Refusal) (P : State → Prop) : Prop := ∃ t, o = .next t ∧ P t

/-! ## What stays -/

/-- A port less what queueing a frame on it changes: the egress queue, the congestion mark and the counters of R26. -/
def PortState.core (ps : PortState) : PortState :=
  { ps with egress := [], armed := true, forwarded := 0, originated := 0, egressDropped := 0, controlOverflow := 0 }

/-- A lane record less its summary period. -/
def LaneRec.core (r : LaneRec) : LaneRec := { r with summaryAt := 0 }

/-- A coupling record less its summary period. -/
def CoupRec.core (r : CoupRec) : CoupRec := { r with summaryAt := 0 }

/-- The state less what the clock, the queueing of frames, the raising of events and the summaries change. Two states of one
quiet part differ in nothing else: every table, record, timer, account, ingress queue and mode is the same. -/
def State.quiet (s : State) : State :=
  { s with
    now := 0
    switch := { s.switch with B := s.switch.B.core, M := s.switch.M.core, T := s.switch.T.core }
    intake := { s.intake with stateAt := 0 }
    lanes := { s.lanes with recs := s.lanes.recs.map LaneRec.core }
    steering := { s.steering with summaryAt := 0 }
    couplings := { s.couplings with recs := s.couplings.recs.map CoupRec.core }
    mgmt := { s.mgmt with flags := Tab.fill 27 EventFlag.reset }
    due := Due.none }

/-- The flags but for the named events and PORT_CONGESTED, which any frame queued may raise (R26, R28), are the same. -/
def FlagsKept (s t : State) (es : List Event) : Prop :=
  ∀ e : Event, e ≠ .portCongested → e ∉ es → t.flag e = s.flag e

/-- R163: an event raised once: a clear flag is set with the detail, a flag already set counts an occurrence. -/
def Raised (s t : State) (e : Event) (d : Option Nat) : Prop := t.flag e = (s.flag e).raise d

/-! ## Situations -/

/-- A step taken at `t` by a part that is not held in reset. -/
def Awake (t : Nat) (s : State) : Prop := (s.at t).held = false

/-- A timer is due in a step taken at `t`. -/
def DueAt (timer : Option Nat) (t : Nat) (s : State) : Prop := isDue timer (s.at t).now = true

/-- What the switch does with the head of a port's queue in a step taken at `t`, up to delivery; none for an empty queue and
for a part held in reset. -/
def State.sorted (t : Nat) (p : Port) (s : State) : Option Sorted :=
  if (s.at t).held then none else (s.at t).sortHead p

/-- The head of a port's queue is delivered to the owner of its kind: the kind, the frame, and the state once its copies have
been offered (R15, R18). -/
def State.delivery (t : Nat) (p : Port) (s : State) : Option (MsgKind × Received × State) :=
  match s.sorted t p with
  | some (.delivered k q s1) => some (k, q, s1)
  | _ => none

/-- The head of port B's queue is handed to the management block (R16): the frame, and the state with it taken. -/
def State.handed (t : Nat) (s : State) : Option (Received × State) :=
  match s.sorted t .B with
  | some (.managed q s1) => some (q, s1)
  | _ => none

/-- The head of port B's queue completes a request (R10, R11): its source, its message, and the state after reassembly. -/
def State.completed (t : Nat) (s : State) : Option (Nat × List Byte × State) :=
  match s.handed t with
  | some (q, s1) =>
    match s1.takePart q with
    | (s2, some m) => some (q.frame.id.source.toNat, m, s2)
    | (_, none) => none
  | none => none

/-- The head of port B's queue completes a request `m` from `source` that makes `r` and passes the tests of length and mode
(R159); `s2` is the state after reassembly. -/
def Completes (t : Nat) (r : Req) (source : Nat) (m : List Byte) (s s2 : State) : Prop :=
  s.completed t = some (source, m, s2) ∧ requestOf m = r ∧ s2.earlyRefusal r m = none

/-- The command whose row of the table is a request. -/
def Req.command (t : Nat) : Req → Option Instr
  | .badTable => none
  | .unknown => some (.unknownRequest t)
  | .identify => some (.identify t)
  | .readStatus => some (.readStatus t)
  | .readRow => some (.readRow t)
  | .loadRoute => some (.loadRouteEntry t)
  | .loadStation => some (.loadStationRow t)
  | .loadTiming => some (.loadTimingRow t)
  | .loadLane => some (.loadLaneRow t)
  | .loadGroup => some (.loadGroupRow t)
  | .loadActuator => some (.loadActuatorRow t)
  | .loadBank => some (.loadBankRow t)
  | .loadCoupling => some (.loadCouplingRow t)
  | .loadTank => some (.loadTankRow t)
  | .loadChannel => some (.loadMeterChannelRow t)
  | .clearRoutes => some (.clearRouteTable t)
  | .clearStations => some (.clearStationTable t)
  | .clearLanes => some (.clearLaneTable t)
  | .clearGroups => some (.clearGroupTable t)
  | .clearActuators => some (.clearActuatorTable t)
  | .clearBank => some (.clearBank t)
  | .clearCouplings => some (.clearCouplingTable t)
  | .clearTanks => some (.clearTankTable t)
  | .clearChannels => some (.clearMeterChannelTable t)
  | .closeBank => some (.closeBank t)
  | .swapBank => some (.swapBank t)
  | .engage => some (.engage t)
  | .disengage => some (.disengage t)
  | .layUp => some (.layUp t)
  | .wake => some (.wake t)
  | .setCap => some (.setCap t)
  | .openTank => some (.openTank t)
  | .adjustTank => some (.adjustTank t)
  | .readTank => some (.readTank t)
  | .transfer => some (.transfer t)
  | .cancelTransfer => some (.cancelTransfer t)
  | .suspendTransfer => some (.suspendTransfer t)
  | .resumeTransfer => some (.resumeTransfer t)
  | .readTransfer => some (.readTransfer t)
  | .sounding => some (.sounding t)
  | .reconcile => some (.reconcile t)
  | .readEvents => some (.readEvents t)
  | .clearEvents => some (.clearEvents t)
  | .setMask => some (.setMask t)
  | .readCounters => some (.readCounters t)
  | .resetArm => some (.resetArm t)
  | .reset => some (.reset t)

/-- Between events no summary is due (assumption log 12). -/
def NothingDue (s : State) : Prop := s.due = Due.none

/-! ## What an event queues -/

/-- The egress side of a port: its queue, its congestion mark and the counters of R26. -/
def PortState.out (ps : PortState) : PortState :=
  { ps with ingress := [], received := 0, ingressOverflow := 0, malformed := 0 }

/-- On ports M and T the event queues the frame `f` of the part on `p`, under R26, and nothing else. (On B it queues the
ATTENTION frames and summaries that its events and records call for.) -/
def Queues (s1 u : State) (p : Port) (f : CmsFrame) : Prop :=
  p ≠ .B → (u.port p).out = ((s1.port p).offered .originated f).out
    ∧ ∀ p', p' ≠ .B → p' ≠ p → (u.port p').out = (s1.port p').out

/-- On ports M and T the event queues nothing. -/
def QueuesNothing (s1 u : State) : Prop := ∀ p, p ≠ .B → (u.port p).out = (s1.port p).out

/-- No frame taken from a segment is copied to a port: no port counts a frame as forwarded, and every frame added to a queue is
the part's own. -/
def NothingForwarded (s1 u : State) : Prop :=
  ∀ p, (u.port p).forwarded = (s1.port p).forwarded
    ∧ ∀ f ∈ (u.port p).egress, f ∈ (s1.port p).egress ∨ f.id.source = BitVec.ofNat 7 s1.node

/-- The event queues no frame on any port, but for the summaries that were due on B before it; a frame that it drops is copied
nowhere. -/
def DropsUncopied (s1 u : State) : Prop :=
  QueuesNothing s1 u ∧ NothingForwarded s1 u ∧ (NothingDue s1 → (u.port .B).out = (s1.port .B).out)

/-- Copies of `f` are offered to the ports of `out` (R17, R23) and nothing else is queued: on M and T in every case, and on B
too where no summary waits and no offer raises PORT_CONGESTED. -/
def Forwarded (s1 u : State) (out : PortSet) (f : CmsFrame) : Prop :=
  ∀ p, (p ≠ .B ∨ (NothingDue s1 ∧ ∀ p', (s1.port p').congests f = false)) →
    (u.port p).out = (if out.has p then (s1.port p).offered .forwarded f else s1.port p).out

/-- `u` is `w` but for frames queued, flags and summary periods; its clock, and its flags but those of `es`, are those of
`s1`, the state the effect found. -/
def LooksLike (s1 w u : State) (es : List Event) : Prop :=
  u.now = s1.now ∧ u.quiet = w.quiet ∧ FlagsKept s1 u es

/-- The command answers a next state that looks like `w` and of which `P` holds. -/
def Becomes (c : Instr) (s s1 w : State) (es : List Event) (P : State → Prop) : Prop :=
  Answers (exec c s) fun u => LooksLike s1 w u es ∧ P u

/-- A MGMT_REPLY of these bytes to `target` is queued on B behind what was there, with nothing but orders and ATTENTION frames
of the part in between (classes 1 and 2, R7); said of a queue that is far from full. -/
def Replies (s2 u : State) (target : Nat) (bytes : List Byte) : Prop :=
  (s2.port .B).egress.length ≤ 16 →
    ∃ mid, (∀ f ∈ mid, f.id.cls = 1#3 ∨ f.id.cls = 2#3)
      ∧ ((s2.port .B).egress ++ mid ++ s2.replyFrames target bytes) <+: (u.port .B).egress

/-- The request `m`, answered DONE with `body`, leaves the state `s3` and the arming record absent (R165). -/
def Served (c : Instr) (source : Nat) (m : List Byte) (s s2 s3 : State) (body : List Byte) (es : List Event)
    (P : State → Prop) : Prop :=
  Becomes c s s2 (s3.setArming none) es fun u => Replies s2 u source (m.getD 0 0 :: 0#8 :: body) ∧ P u

/-- The request `m`, refused with a result, changes nothing but the arming record (R159, R165). -/
def Refused (c : Instr) (source : Nat) (m : List Byte) (s s2 : State) (why : Result) : Prop :=
  Becomes c s s2 (s2.setArming none) [] fun u =>
    QueuesNothing s2 u ∧ Replies s2 u source [m.getD 0 0, byte why.number]

/-! ## Demands -/

/-- The source is a loaded station that holds the right of the job and is in command of it (R34, test 4). -/
def State.commands (s : State) (j : Job) (source : Nat) : Bool :=
  match s.stationOf source with
  | some i => (s.intake.stations.get i).any (fun row => row.holds j) && decide ((s.job j).station = some i)
  | none => false

/-- A demand of the kind and job is delivered and accepted in COORDINATING (R34): the frame, and the state once its station
is heard (R36, R44). -/
def State.accepted (t : Nat) (p : Port) (k : MsgKind) (j : Job) (s : State) : Option (Received × State) :=
  match s.delivery t p with
  | some (k', q, s1) =>
    if k' = k ∧ s1.commands j q.frame.id.source.toNat = true ∧ s1.mgmt.mode = .coordinating then
      some (q, s1.hear j q.arrival)
    else none
  | none => none

/-- A COUPLING_ORDER carrying the order is delivered and passed on (R46): the frame, and the state that takes it. -/
def State.passed (t : Nat) (p : Port) (o : CoupOrder) (s : State) : Option (Received × State) :=
  match s.delivery t p with
  | some (.couplingOrder, q, s1) =>
    match s1.stationOf q.frame.id.source.toNat with
    | some i =>
      if demandOrder q.frame.data = o ∧ (s1.intake.stations.get i).any (fun row => row.couple) = true then some (q, s1)
      else none
    | none => none
  | _ => none

/-! ## Records as the rules leave them -/

/-- A lane's record replaced, and nothing else. -/
def State.setLane (l : Fin 4) (r : LaneRec) (s : State) : State :=
  { s with lanes := { s.lanes with recs := s.lanes.recs.set l r } }

/-- A lane's record replaced; where that changes its state, the actuators it steers are evaluated (R100). -/
def State.laneBecomes (l : Fin 4) (r : LaneRec) (s : State) : State :=
  if (s.lane l).state = r.state then s.setLane l r else (s.setLane l r).evaluateLane l

/-- An actuator's record replaced, and nothing else. -/
def State.setAct (a : Fin 8) (r : ActRec) (s : State) : State :=
  { s with steering := { s.steering with recs := s.steering.recs.set a r } }

/-- A coupling's record replaced, and nothing else. -/
def State.setCoup (c : Fin 32) (r : CoupRec) (s : State) : State :=
  { s with couplings := { s.couplings with recs := s.couplings.recs.set c r } }

/-- A job's record replaced, and nothing else. -/
def State.setJob (j : Job) (r : JobRec) (s : State) : State :=
  match j with
  | .prop => { s with intake := { s.intake with prop := r } }
  | .steer => { s with intake := { s.intake with steer := r } }

/-- A coupling's record. -/
def State.coup (s : State) (c : Fin 32) : CoupRec := s.couplings.recs.get c

/-- An actuator's record. -/
def State.act (s : State) (a : Fin 8) : ActRec := s.steering.recs.get a

/-- A lane in NEUTRAL asked toward a direction (R59, R60): ENGAGING at once, or the engagement pending until the dwell has
passed. -/
def LaneRec.asked (r : LaneRec) (row : LaneRow) (d : Dir) (v : Nat) (kick : Option Nat) (now : Nat) : LaneRec :=
  let due := if r.lastEngaged = some d then 0
    else r.neutralSince.getD now + (if r.crash then row.crashDwell else row.reversalDwell)
  if due ≤ now then
    { r with state := .engaging, gear := d, pending := none, setpoint := row.idle, kickMark := kick,
             clutchTimer := some (now + row.clutchTimeout), dwellTimer := none, refreshTimer := some (now + row.refresh) }
  else { r with pending := some { dir := d, speed := v, kick := kick }, dwellTimer := some due }

/-- A lane's record after a change of its target (the table of section 4.6, R60 to R63). -/
def LaneRec.changed (r : LaneRec) (row : LaneRow) (d : Dir) (v : Nat) (kick : Option Nat) (now : Nat) : LaneRec :=
  let aimed := { r with targetDir := d, targetSpeed := v }
  let waits : Option Pending := if d = .neutral then none else some { dir := d, speed := v, kick := none }
  let released := { aimed with
    state := .declutch, gear := .neutral, setpoint := row.idle, pending := waits, kickMark := none, kickTimer := none,
    clutchTimer := none, rampTimer := none, neutralTimer := some (now + row.neutralTimeout),
    refreshTimer := some (now + row.refresh) }
  match r.state with
  | .neutral =>
    if d = .neutral then { aimed with pending := none, dwellTimer := none }
    else LaneRec.asked { aimed with pending := none, dwellTimer := none } row d v kick now
  | .engaging => if d = r.gear then { aimed with kickMark := kick } else { released with lastEngaged := some r.gear }
  | .ahead | .astern =>
    if d = r.gear then { aimed with kickTimer := kick.map (fun k => now + 1000 * k) }
    else if r.setpoint = row.idle then released
    else { aimed with state := .rampdown, pending := waits, kickTimer := none }
  | .rampdown =>
    if d = r.gear then { aimed with state := .engaged r.gear, pending := none } else { aimed with pending := waits }
  | .declutch => { aimed with pending := waits }
  | .unsynced | .stopped | .fault => r

/-- A lane's record on entry to FAULT (R55). -/
def LaneRec.faulted (r : LaneRec) (why : LaneCause) : LaneRec :=
  { r with
    state := .fault, cause := some why, gear := .neutral, targetDir := .neutral, targetSpeed := 0, setpoint := 0,
    pending := none, kickMark := none, kickTimer := none, crash := false, rampTimer := none, clutchTimer := none,
    neutralTimer := none, dwellTimer := none, statusTimer := none, refreshTimer := none }

/-- A coupling's record after a WINCH_STATUS (R111 to R116). -/
def CoupRec.reported (old : CoupRec) (row : CoupRow) (rep : WinchReport) (arrival : Nat) : CoupRec :=
  let told := { old with tension := some rep.tension, drum := some rep.drum, hookOpen := some rep.hookOpen }
  let timed := { told with statusTimer := some (arrival + row.statusTimeout) }
  let letGo := { told with
    state := .released, lock := true, overload := false, releaser := none, opTimer := none, slackTimer := none,
    statusTimer := none, repeatTimer := none }
  let adopted :=
    if rep.hookOpen then { letGo with cause := none }
    else if rep.drum = .holding ∧ row.slackLimit ≤ rep.tension then
      { timed with cause := none, state := .madeFast, overload := decide (row.hard ≤ rep.tension) }
    else { timed with cause := none, state := .slacked }
  if rep.fault then
    if old.state = .fault then { told with cause := some .winchFault }
    else { told with
      state := .fault, cause := some .winchFault, overload := false, releaser := none, opTimer := none,
      slackTimer := none, statusTimer := none, repeatTimer := none }
  else match old.state with
    | .unsynced => adopted
    | .fault =>
      if old.cause = some .statusLost ∨ old.cause = some .winchFault ∨ old.cause = none
          ∨ rep.drum = .holding ∨ rep.drum = .free then adopted
      else told
    | .released => if rep.hookOpen then told else { timed with state := .slacked }
    | .slacked | .releasing | .lost => if rep.hookOpen then letGo else timed
    | .makingUp =>
      if row.makeUpTarget - row.makeUpBand ≤ rep.tension ∧ rep.drum = .holding then
        { timed with state := .madeFast, opTimer := none, repeatTimer := none }
      else timed
    | .madeFast =>
      if rep.hookOpen then letGo
      else { timed with
        overload := decide (row.hard ≤ rep.tension)
        slackTimer := if rep.tension < row.slackLimit then some (old.slackTimer.getD (arrival + row.slackTime)) else none }
    | .easing =>
      if rep.hookOpen then letGo
      else if rep.tension < row.slackLimit then { timed with state := .slacked, opTimer := none, repeatTimer := none }
      else timed

/-- A coupling's record on entry to FAULT (R115). -/
def CoupRec.faulted (r : CoupRec) (why : CoupCause) : CoupRec :=
  { r with
    state := .fault, cause := some why, overload := false, releaser := none, opTimer := none, slackTimer := none,
    statusTimer := none, repeatTimer := none }

/-- A refused COUPLING_ORDER recorded (R117), and nothing else. -/
def State.orderRefused (source : Nat) (o : CoupOrder) (c : Option (Fin 32)) (why : CoupReason) (s : State) : State :=
  let noted := { s with couplings := { s.couplings with
    lastRefusal := some { source := source, order := o, index := c, reason := why } } }
  match c with
  | none => noted
  | some c => noted.setCoup c { s.coup c with refusal := some { source := source, order := o, reason := why } }

/-- The release permit record replaced, and nothing else. -/
def State.setPermit (x : Option Permit) (s : State) : State := { s with couplings := { s.couplings with permit := x } }

/-- A GOVERNOR_ORDER frame (11.5). -/
def State.governorFrame (s : State) (l : Fin 4) (row : LaneRow) (gear : Dir) (v : Nat) : CmsFrame :=
  s.frameOf .governorOrder row.node (byte gear.code :: be16 v ++ [byte l.val])

/-- A lane that enters ENGAGING or DECLUTCH is ordered its new gear at its idle speed; otherwise no order is queued
(R60 to R63, R68). -/
def LaneOrders (s1 u : State) (l : Fin 4) (row : LaneRow) (old new : LaneRec) : Prop :=
  if old.state ≠ new.state ∧ (new.state = .engaging ∨ new.state = .declutch) then
    Queues s1 u row.port (s1.governorFrame l row new.gear row.idle)
  else QueuesNothing s1 u

/-- A STEER_ORDER frame (11.2). -/
def State.steerFrame (s : State) (a : Fin 8) (row : ActRow) (v : Int) : CmsFrame :=
  s.frameOf .steerOrder row.node (byte a.val :: beInt16 v)

/-- A WINCH_ORDER frame (R120, 11.2). -/
def State.winchFrame (s : State) (c : Fin 32) (row : CoupRow) (act : WinchAction) : CmsFrame :=
  s.frameOf .winchOrder row.node
    (byte c.val :: byte act.code :: be16 (if act = .heave then row.makeUpTarget else 0))

/-- A PUMP_ORDER frame (11.2): 0 START, 1 STOP. -/
def State.pumpFrame (s : State) (x : Xfer) (stop : Bool) : CmsFrame :=
  s.frameOf .pumpOrder x.pumpNode [if stop then 1#8 else 0#8, byte x.number]

/-! ## Transfers that close -/

/-- The number of a close code (11.6). -/
def closeNumber : CloseCode → Nat
  | .complete => 0
  | .cancelled => 1
  | .hoseLost => 2
  | .meterLost => 3
  | .destFull => 4
  | .pumpFault => 5
  | .refusedAtStart => 6
  | .reset => 7

/-- The ATTENTION frame of TRANSFER_CLOSED (R163, 11.6) for a record closed with a code: event number, transfer number, source
and destination tank, and in bytes 3 to 7 the close code in 4 bits, the amount in kg in 18 and the moved mass in whole kg,
held within 18 bits. -/
def State.closedAttention (s : State) (x : Xfer) (code : CloseCode) : CmsFrame :=
  let word := closeNumber code * 2 ^ 36 + x.amount * 2 ^ 18 + min 262143 (x.moved / 1000000)
  { id := { cls := 2#3, kind := 0x84#8, source := BitVec.ofNat 7 s.node, target := 0#7, last := true, part := 0#3 }
    data := [24#8, BitVec.ofNat 8 x.number, BitVec.ofNat 8 (x.source.val * 16 + x.dest.val),
      BitVec.ofNat 8 (word / 2 ^ 32), BitVec.ofNat 8 (word / 2 ^ 24), BitVec.ofNat 8 (word / 2 ^ 16),
      BitVec.ofNat 8 (word / 2 ^ 8), BitVec.ofNat 8 word] }

/-- The record as it closes (R145): CLOSED, with the first cause recorded for it, every timer stopped. -/
def Xfer.closedAs (x : Xfer) (code : CloseCode) : Xfer :=
  { x with state := .closed, code := some (x.code.getD code), startTimer := none, stopTimer := none, repeatTimer := none }

/-- R146: the tests a PENDING record passes at its promotion. -/
def State.promotes (w : State) (y : Xfer) : Prop :=
  w.xferInRange y.source y.dest y.amount y.pumpNode y.channel = true ∧ w.xferRefusal y.source y.dest y.amount = none

/-- The ACTIVE record closes as `x` in the state `w`, TRANSFER_CLOSED is raised with it, and promotion follows in the same
event (R145, R146): a PENDING record that passes its tests is started, and one that fails them closes REFUSED_AT_START. -/
def ClosesActive (w u : State) (x : Xfer) : Prop :=
  let first := (w.flag .transferClosed).raise (some x.number)
  u.transfers.waiting = none ∧ u.transfers.nextNumber = w.transfers.nextNumber
  ∧ u.transfers.soundings = w.transfers.soundings
  ∧ (w.transfers.waiting = none →
      u.transfers.active = none ∧ u.transfers.lastClosed = some x ∧ u.flag .transferClosed = first)
  ∧ ∀ y, w.transfers.waiting = some y →
      (w.promotes y → u.transfers.lastClosed = some x ∧ u.flag .transferClosed = first
        ∧ u.transfers.active = some { y with
            state := .starting, pumpStopped := false, startTimer := some (w.now + 10000), stopTimer := none,
            repeatTimer := some (w.now + 1000) })
      ∧ (¬ w.promotes y → u.transfers.active = none ∧ u.transfers.lastClosed = some (y.closedAs .refusedAtStart)
          ∧ u.flag .transferClosed = first.raise (some y.number))

/-! ## Table rows -/

/-- A node that a row may name: 1 to 126 and not the part's own (R4). -/
def NodeOk (own n : Nat) : Prop := 1 ≤ n ∧ n ≤ 126 ∧ n ≠ own

/-! ## Parts of the quiet state -/

/-- The quiet part less the records a ceiling or a lane's state reaches: lanes, ceilings, groups and actuators. -/
def State.lessDrive (s : State) : State :=
  { s.quiet with
    lanes := { s.lanes with recs := State.reset.lanes.recs, ceils := State.reset.lanes.ceils }
    groups := { s.groups with recs := State.reset.groups.recs }
    steering := { s.quiet.steering with recs := State.reset.steering.recs } }

/-- The quiet part less the records that a change of MADE_FAST reaches (R125): those of `lessDrive`, and the slots of the
transfer controller with what a close writes. -/
def State.lessMade (s : State) : State :=
  { s.lessDrive with transfers := { s.transfers with active := none, waiting := none, lastClosed := none } }

/-! ## Ceilings and the reserve -/

/-- R66, R89: no loaded lane that rides has its setpoint above its effective ceiling, and no group point stands above the least
effective ceiling of its riding members. -/
def State.WithinCeilings (s : State) : Prop :=
  (∀ l row, s.lanes.rows.get l = some row → (s.lane l).state.riding = true → (s.lane l).setpoint ≤ s.effCeiling l row)
  ∧ ∀ g c, s.leastCeiling g = some c → (s.groups.recs.get g).point ≤ c

/-- R141: what a change of tank `k`'s reserve reaches: each loaded lane the tank feeds takes the FUEL_RESERVE entry `posted` of
its row, every other lane keeps its entries, and a lane that the tank does not feed and that is out of step keeps its record. -/
def ReserveReaches (s u : State) (k : Fin 16) (posted : LaneRow → Option Nat) : Prop :=
  ∀ l,
    (∀ r, s.lanes.rows.get l = some r → r.feedTank = k →
      u.lanes.ceils.get l = { s.lanes.ceils.get l with fuelReserve := posted r })
    ∧ ((∀ r, s.lanes.rows.get l = some r → r.feedTank ≠ k) →
        u.lanes.ceils.get l = s.lanes.ceils.get l
        ∧ ((s.lane l).inStep = false → (u.lane l).core = (s.lane l).core))

/-- R141: from `s` the reserve of tank `k` is set: `u` is `w`, the arming record absent, but for lanes, groups and actuators,
and FUEL_RESERVE stands on the lanes the tank feeds. -/
def ReserveSet (s w u : State) (k : Fin 16) : Prop :=
  u.lessDrive = (w.setArming none).lessDrive ∧ FlagsKept s u [.tankReserve]
    ∧ ReserveReaches s u k (fun r => some r.reserveCap)

/-- R141: from `s` the reserve of tank `k` is clear: `u` is `w`, the arming record absent, but for lanes, groups and actuators,
and FUEL_RESERVE is removed from the lanes the tank feeds. Where nothing stood above its ceiling nothing is cut, and `u` is
`w` but for those entries (R66, R89). -/
def ReserveCleared (s w u : State) (k : Fin 16) : Prop :=
  u.lessDrive = (w.setArming none).lessDrive ∧ FlagsKept s u [] ∧ ReserveReaches s u k (fun _ => none)
    ∧ (s.WithinCeilings →
        u.quiet = ({ w with lanes := { w.lanes with ceils := u.lanes.ceils } }.setArming none).quiet)

/-! ## Laws of the device -/

/-- R14, R26: at most 32 frames in every ingress queue and at most 48 in every egress queue. -/
def QueueLaw (s : State) : Prop :=
  ∀ p : Port, (s.port p).ingress.length ≤ 32 ∧ (s.port p).egress.length ≤ 48

/-- R123: every coupling in RELEASED has its release lock set. -/
def LockLaw (s : State) : Prop :=
  ∀ c : Fin 32, (s.couplings.recs.get c).state = .released → (s.couplings.recs.get c).lock = true

/-- R124: a FACE or ASSIST coupling is in RELEASING only while no loaded lane of the boat it bears is active. -/
def ReleaseLaw (s : State) : Prop :=
  ∀ c row, s.couplings.rows.get c = some row → (row.kind = .face ∨ row.kind = .assist) →
    (s.coup c).state = .releasing →
    ∀ l lane, s.lanes.rows.get l = some lane → row.bears = some lane.boat → (s.lane l).state.active = false

/-- R143, R144: a PENDING record waits behind an occupied ACTIVE slot alone; the ACTIVE record is neither PENDING nor CLOSED; in
PASS_THROUGH the slots are empty. -/
def SlotLaw (s : State) : Prop :=
  (s.transfers.waiting.isSome = true → s.transfers.active.isSome = true)
  ∧ (∀ x, s.transfers.active = some x → x.state ≠ .pending ∧ x.state ≠ .closed)
  ∧ (∀ x, s.transfers.waiting = some x → x.state = .pending)
  ∧ (s.mgmt.mode = .passThrough → s.transfers.active = none)

/-- R150: a transfer with a BARGE end is in STARTING or RUNNING only while that tank's hose coupling is MADE_FAST. -/
def HoseLaw (s : State) : Prop :=
  ∀ x, s.transfers.active = some x → (x.state = .starting ∨ x.state = .running) →
    s.hoseFast x.source = true ∧ s.hoseFast x.dest = true

/-- R64: a lane that is UNSYNCED, STOPPED or FAULT has setpoint 0, and a loaded lane in NEUTRAL, ENGAGING or DECLUTCH has its
idle speed. -/
def SetpointLaw (s : State) : Prop :=
  ∀ l, ((s.lane l).state.loadable = true → (s.lane l).setpoint = 0)
    ∧ ∀ row, s.lanes.rows.get l = some row →
      ((s.lane l).state = .neutral ∨ (s.lane l).state = .engaging ∨ (s.lane l).state = .declutch) →
      (s.lane l).setpoint = row.idle

/-- R19: the route table stands in strictly ascending key order, holds at most 128 entries, and names as a source a node of 1 to
126 or ANY. -/
def RouteLaw (s : State) : Prop :=
  s.switch.routes.Pairwise (fun a b => a.key < b.key) ∧ s.switch.routes.length ≤ 128
  ∧ ∀ e ∈ s.switch.routes, ∀ n, e.source = some n → 1 ≤ n ∧ n ≤ 126

/-- R131: content equals opening content plus in total, less out total, less drawn total, plus adjustment total. -/
def TankAcct.Balanced (a : TankAcct) : Prop := a.content = a.opening + a.inTotal - a.outTotal - a.drawn + a.adjustment

/-- A sum fits an account field (section 8.1). -/
def FitsAccount (x : Int) : Prop := -9223372036854775808 ≤ x ∧ x ≤ 9223372036854775807

end Sys2Proof.Machine
end

