-- ==== Sys2Proof/Certificates/Slice0/Obligations.lean ====
section
/-!
DEFINITION. The statements for the provers, each a proposition about every state, or about every state in the situation it
names.
-/

open Sys2Proof Sys2Proof.Machine

/-! ## The machine -/

/-- A step executes the command at the front of the queue on the state whose queue holds the rest. On an empty queue the
part idles (the model's choice: assumption log 2). -/
def Obligations.StepRunsTheFrontCommand : Prop :=
  (∀ (s : State) (c : Instr) (rest : List Instr), s.pending = c :: rest → step s = exec c { s with pending := rest })
  ∧ (∀ s : State, s.pending = [] → step s = .next s)

/-- Every command answers a next state, and between events no summary is due (the model's own fields: assumption logs 12
and 24). R170: a part held in reset, by the reset line or by the supply, takes no frame, and no step but those of the line
and the supply has an effect on it: the clock alone moves. The clock is the model's own (assumption log 1). The reset line
asserted for 10 ms or longer, or the supply below 15 V, holds the part in reset from then on, whatever held it before; a
shorter assertion has no effect. The hold lasts while either cause does: the line released with the supply still low, or
the supply risen with the line still asserted, ends its own cause and nothing else. The model's choice: the release of an
assertion that was disregarded has no effect (assumption log 23). -/
def Obligations.EveryCommandAnswersAndAHeldPartDoesNothing : Prop :=
  (∀ (c : Instr) (s : State), NothingDue s → Answers (exec c s) NothingDue)
  ∧ (∀ (c : Instr) (s : State), s.lineAsserted = true ∨ s.supplyLow = true →
      (match c with | .powerOnReset _ _ => False | .resetLineAsserted _ _ => False | _ => True) →
      ∃ t, exec c s = .next (s.at t))
  ∧ ∀ (t : Nat) (s : State),
      (∀ ms, 10 ≤ ms → Answers (exec (.resetLineAsserted t (.line ms)) s) fun u =>
        u.lineAsserted = true ∧ u.supplyLow = s.supplyLow ∧ u.held = true)
      ∧ (∀ ms, ms < 10 → exec (.resetLineAsserted t (.line ms)) s = .next (s.at t))
      ∧ (Answers (exec (.resetLineAsserted t .supplyBelow15V) s) fun u =>
        u.supplyLow = true ∧ u.lineAsserted = s.lineAsserted ∧ u.held = true)
      ∧ ∀ straps,
        (s.lineAsserted = true → s.supplyLow = true →
          exec (.powerOnReset t (.lineReleased straps)) s = .next { s.at t with lineAsserted := false }
          ∧ ({ s.at t with lineAsserted := false }).held = true)
        ∧ (s.lineAsserted = true →
          exec (.powerOnReset t (.supplyRises straps)) s = .next { s.at t with supplyLow := false }
          ∧ ({ s.at t with supplyLow := false }).held = true)
        ∧ (s.lineAsserted = false → exec (.powerOnReset t (.lineReleased straps)) s = .next (s.at t))

/-- R170, R167, R3: the reset line released with the supply in range, and the supply risen into range with the line
released, carry out power-on reset. It reads the straps: 1 to 126 becomes the node number, 0 and 127 leave the part at
node 126. Every block is at its power-on values, with the timers of R45, R74, R107 and R127 and the hold of R47 counted
from the reset. RESET_DONE is not raised: every flag is clear and masked. R170: an assertion of the line for 10 ms or
more, or the supply below 15 V, leaves every block at those values too, the straps not read, and ends any operation in
flight. The model's choices: the last-heard times are absent and the tolerance in force is 0 (assumption logs 49 and 20),
and a supply that rises when it was not low is a fresh power-up (assumption log 23). -/
def Obligations.PowerOnResetGivesThePowerOnValues : Prop :=
  let powered : State → State → Nat → Prop := fun s u t =>
    u.now = max s.now t ∧ u.pending = s.pending ∧ u.due = Due.none
    ∧ u.switch = { B := PortState.reset, M := PortState.reset, T := PortState.reset, routes := [], unrouted := 0 }
    ∧ u.intake = { stations := Tab.fill 4 none, refusals := Tab.fill 4 0, demandTimeout := 2000, holdTime := 3000,
                   prop := { station := none, lastHeard := none, loss := .holding u.now },
                   steer := { station := none, lastHeard := none, loss := .holding u.now },
                   lastRefusal := none, lastTake := none, stateAt := u.now + 1000 }
    ∧ u.lanes = { rows := Tab.fill 4 none, recs := Tab.fill 4 (LaneRec.reset (u.now + 1000)),
                  ceils := Tab.fill 4 Ceilings.empty }
    ∧ u.groups = { rows := Tab.fill 2 none, recs := Tab.fill 2 GroupRec.reset }
    ∧ u.steering = { rows := Tab.fill 8 none, recs := Tab.fill 8 ActRec.reset, bankA := Tab.fill 8 none,
                     bankB := Tab.fill 8 none, active := .A, complete := false, helm := 0, summaryAt := u.now + 1000 }
    ∧ u.couplings = { rows := Tab.fill 32 none, recs := Tab.fill 32 (CoupRec.reset (u.now + 1000)), permit := none,
                      lastRefusal := none }
    ∧ u.fuel = { tanks := Tab.fill 16 none, accts := Tab.fill 16 TankAcct.reset, channels := Tab.fill 8 none,
                 recs := Tab.fill 8 ChanRec.reset }
    ∧ u.transfers = { active := none, waiting := none, lastClosed := none, nextNumber := 1,
                      soundings := Tab.fill 16 none }
    ∧ u.mgmt = { mode := .passThrough, flags := Tab.fill 27 EventFlag.reset, arming := none, slots := Tab.fill 2 none }
  ∀ (t : Nat) (s : State),
    (∀ (cause : HoldEnd) (straps : BitVec 7),
      (cause = .lineReleased straps ∧ s.lineAsserted = true ∧ s.supplyLow = false
        ∨ cause = .supplyRises straps ∧ s.lineAsserted = false) →
      Answers (exec (.powerOnReset t cause) s) fun u =>
        powered s u t ∧ u.held = false ∧ u.straps = straps
        ∧ (1 ≤ straps.toNat → straps.toNat ≤ 126 → u.node = straps.toNat)
        ∧ (straps = 0#7 ∨ straps = 127#7 → u.node = 126))
    ∧ ∀ cause : HoldCause, ((∃ ms, 10 ≤ ms ∧ cause = .line ms) ∨ cause = .supplyBelow15V) →
      Answers (exec (.resetLineAsserted t cause) s) fun u => powered s u t ∧ u.held = true ∧ u.straps = s.straps

/-- R165: RESET_ARM arms for its source for 5,000 ms; RESET from any source that is not armed is refused NOT_ARMED and
leaves the record absent; at its expiry the record becomes absent. R166 and the reset rule of each chapter: RESET from
the armed source resets every block, keeping tables, accounts, meter baselines and remainders, the timing row, the
node number and the next transfer number. R142: the reserve of every defined FEED tank is evaluated afresh: the flag
of one below its reserve is set, FUEL_RESERVE is posted on the lanes it feeds and TANK_RESERVE is raised, its first
detail the lowest such tank (the model's choice: assumption log 61); that of any other is clear. RESET_DONE is set, no
other flag is, there is an ATTENTION frame for no masked flag, and the reply is the first frame of B. R157, R166: a
PENDING record and then the ACTIVE one are closed with RESET, so the last closed record holds the ACTIVE one where
there was one; one PUMP_ORDER STOP goes to its pump, the first frame of its port; no TRANSFER_CLOSED is raised. With a
transfer in the ACTIVE slot or without, every block is reset alike. The model's choices: the code is RESET for a
record that is STOPPING with an earlier code as well (assumption log 40), both jobs are left HOLDING where the hold
time is 0 too (assumption log 17), and the reset queues no summary for what it changes (assumption log 50); the
last-heard times are absent (assumption log 49), and the group's tolerance in force returns to 0 (assumption log 20).
-/
def Obligations.CommandResetIsArmedAndKeepsTheTables : Prop :=
  ((∀ (t source : Nat) (m : List Byte) (s s2 : State), Completes t .resetArm source m s s2 →
      Becomes (.resetArm t) s s2 (s2.setArming (some { source := source, expiry := s2.now + 5000 })) [] fun u =>
        QueuesNothing s2 u ∧ Replies s2 u source [m.getD 0 0, 0#8])
    ∧ (∀ (t source : Nat) (m : List Byte) (s s2 : State), Completes t .reset source m s s2 →
        (∀ a, s2.mgmt.arming = some a → a.source ≠ source) → Refused (.reset t) source m s s2 .notArmed)
    ∧ (∀ (t : Nat) (s : State) (a : Arming), s.held = false → s.mgmt.arming = some a → a.expiry ≤ (s.at t).now →
        Becomes (.resetArmExpiry t) s (s.at t) (s.setArming none) [] (QueuesNothing (s.at t))))
  ∧ (∀ (t source : Nat) (m : List Byte) (s s2 : State),
      Completes t .reset source m s s2 → s2.armedFor source = true →
      (∀ x, s2.transfers.active = some x → x.pumpPort ≠ .B) →
      let closed : Xfer → Xfer := fun x =>
        { x with state := .closed, code := some .reset, startTimer := none, stopTimer := none, repeatTimer := none }
      let feeds : Fin 16 → Prop := fun k => (s2.acct k).defined = true
        ∧ ∃ row, s2.fuel.tanks.get k = some row ∧ row.kind = .feed
      let low : Fin 16 → Prop := fun k => (s2.acct k).defined = true
        ∧ ∃ row, s2.fuel.tanks.get k = some row ∧ row.kind = .feed
          ∧ (s2.acct k).content < ((row.reserve * 1000000 : Nat) : Int)
      Answers (exec (.reset t) s) fun u =>
        u.now = s2.now ∧ u.node = s2.node ∧ u.straps = s2.straps ∧ u.held = false ∧ u.pending = s2.pending
        ∧ u.switch.routes = s2.switch.routes.map (fun e => { e with hits := 0, lastForward := none })
        ∧ u.switch.unrouted = 0
        ∧ (∀ p : Port, p ≠ .B → (∀ x, s2.transfers.active = some x → x.pumpPort ≠ p) → u.port p = PortState.reset)
        ∧ (∀ x, s2.transfers.active = some x →
            u.port x.pumpPort = { PortState.reset with egress := [s2.pumpFrame x true], originated := 1 })
        ∧ u.switch.B = { PortState.reset with
            egress := s2.replyFrames source [m.getD 0 0, 0#8], originated := 1 }
        ∧ u.intake = { s2.intake with
            refusals := Tab.fill 4 0, prop := { station := none, lastHeard := none, loss := .holding u.now },
            steer := { station := none, lastHeard := none, loss := .holding u.now }, lastRefusal := none,
            lastTake := none, stateAt := u.now + 1000 }
        ∧ u.lanes = { s2.lanes with recs := Tab.fill 4 (LaneRec.reset (u.now + 1000)), ceils := u.lanes.ceils }
        ∧ (∀ l, s2.lanes.rows.get l = none → u.lanes.ceils.get l = Ceilings.empty)
        ∧ (∀ l row, s2.lanes.rows.get l = some row →
            (low row.feedTank → u.lanes.ceils.get l = { Ceilings.empty with fuelReserve := some row.reserveCap })
            ∧ (¬ low row.feedTank → u.lanes.ceils.get l = Ceilings.empty))
        ∧ u.groups = { s2.groups with recs := Tab.fill 2 GroupRec.reset }
        ∧ u.steering = { s2.steering with
            recs := Tab.fill 8 ActRec.reset, helm := 0, summaryAt := u.now + 1000 }
        ∧ u.couplings = { s2.couplings with
            recs := Tab.fill 32 (CoupRec.reset (u.now + 1000)), permit := none, lastRefusal := none }
        ∧ u.fuel.tanks = s2.fuel.tanks ∧ u.fuel.channels = s2.fuel.channels
        ∧ (∀ k, (low k → u.acct k = { s2.acct k with atReserve := true })
            ∧ (feeds k → ¬ low k → u.acct k = { s2.acct k with atReserve := false })
            ∧ (¬ feeds k → u.acct k = s2.acct k))
        ∧ (∀ ch, u.fuel.recs.get ch = { s2.fuel.recs.get ch with
            implausible := 0, lost := 0, unassigned := 0, unassignedMass := 0,
            timer := (s2.fuel.channels.get ch).map (fun row => u.now + row.timeout) })
        ∧ u.transfers.active = none ∧ u.transfers.waiting = none
        ∧ u.transfers.lastClosed = (match s2.transfers.active, s2.transfers.waiting with
            | some x, _ => some (closed x)
            | none, some x => some (closed x)
            | none, none => s2.transfers.lastClosed)
        ∧ u.transfers.nextNumber = s2.transfers.nextNumber ∧ u.transfers.soundings = Tab.fill 16 none
        ∧ u.mgmt.mode = .passThrough ∧ u.mgmt.arming = none ∧ u.mgmt.slots = Tab.fill 2 none
        ∧ (∀ e : Event, e ≠ .tankReserve → u.flag e =
            if e = .resetDone then { isSet := true, masked := true, count := 0, detail := none } else EventFlag.reset)
        ∧ ((∀ k, ¬ low k) → u.flag .tankReserve = EventFlag.reset)
        ∧ ∀ k, low k → (∀ j, j < k → ¬ low j) → (u.flag .tankReserve).isSet = true
            ∧ (u.flag .tankReserve).masked = true ∧ (u.flag .tankReserve).detail = some k.val)

/-! ## The message set and the frame switch (chapters 1 and 2, 11.1) -/

/-- Section 11.1: the fields of an identifier and its 29 bits determine each other, and class, kind, source, target,
last-part flag and part index stand at bits 28-26, 25-18, 17-11, 10-4, 3 and 2-0. -/
def Obligations.IdentifierFieldsAndBitsAgree : Prop :=
  (∀ i : Ident, Ident.ofBits i.toBits = i) ∧ (∀ w : BitVec 29, (Ident.ofBits w).toBits = w)
  ∧ (∀ i : Ident, i.toBits.toNat = i.cls.toNat * 2 ^ 26 + i.kind.toNat * 2 ^ 18 + i.source.toNat * 2 ^ 11
      + i.target.toNat * 2 ^ 4 + i.last.toNat * 2 ^ 3 + i.part.toNat)

/-- R14: a frame received whole is counted and placed at the tail of its port's queue with its arrival time; a frame
that finds 32 frames there is counted, dropped and counted as overflow, and INGRESS_OVERFLOW is raised with the port.
R5, R16: a frame that fails a validity test, and a management frame or a frame addressed to the part where the table
of R16 says so, is dropped whole: its port's malformed counter rises by one, it is neither forwarded nor delivered,
and no event is raised. No copy of such a frame, and none of one that finds its ingress queue full, is queued on any
port, the bridge port B included. -/
def Obligations.ReceivedFramesAreQueuedAndMalformedOnesDropped : Prop :=
  ((∀ (t : Nat) (p : Port) (f : WireFrame) (s : State), s.held = false → f.wf = true → (s.port p).ingress.length < 32 →
      Becomes (.frameReceived t p f) s (s.at t)
        (s.setPort p { s.port p with
          received := bump (s.port p).received
          ingress := (s.port p).ingress ++
            [{ extended := f.extended, remote := f.remote, frame := { id := Ident.ofBits f.ident, data := f.data },
               arrival := (s.at t).now }] })
        [] (QueuesNothing s))
    ∧ ∀ (t : Nat) (p : Port) (f : WireFrame) (s : State), s.held = false → f.wf = true → (s.port p).ingress.length = 32 →
      Becomes (.frameReceived t p f) s (s.at t)
        (s.setPort p { s.port p with
          received := bump (s.port p).received, ingressOverflow := bump (s.port p).ingressOverflow })
        [.ingressOverflow] fun u =>
          QueuesNothing s u ∧ NothingForwarded s u ∧ Raised s u .ingressOverflow (some (match p with | .B => 0 | .M => 1 | .T => 2)))
  ∧ ((∀ (own : Nat) (q : Received), q.isMalformed own = true ↔
      (q.extended = false ∨ q.remote = true ∨ q.frame.id.source = 0#7 ∨ q.frame.id.source = 127#7
        ∨ q.frame.id.target = 127#7 ∨ q.frame.id.source.toNat = own
        ∨ (q.frame.id.kind ≠ 0x90#8 ∧ q.frame.id.kind ≠ 0x85#8 ∧ (q.frame.id.part ≠ 0#3 ∨ q.frame.id.last = false))))
    ∧ ∀ (t : Nat) (p : Port) (s : State) (q : Received) (rest : List Received),
        s.held = false → (s.port p).ingress = q :: rest →
        (q.isMalformed s.node = true
          ∨ (q.frame.id.target.toNat = s.node ∧ q.frame.id.kind = 0x90#8 ∧ p ≠ .B)
          ∨ (q.frame.id.target.toNat = s.node ∧ q.frame.id.kind = 0x85#8)
          ∨ (q.frame.id.target.toNat = s.node ∧ q.frame.id.kind ≠ 0x90#8 ∧ q.frame.id.kind ≠ 0x85#8
              ∧ s.mgmt.mode = .passThrough)
          ∨ (q.frame.id.target.toNat ≠ s.node ∧ (q.frame.id.kind = 0x90#8 ∨ q.frame.id.kind = 0x85#8) ∧ p ≠ .B
              ∧ s.mgmt.mode ≠ .passThrough)) →
        Becomes (.classifyFrame t p) s (s.at t)
          (s.setPort p { s.port p with ingress := rest, malformed := bump (s.port p).malformed }) [] (DropsUncopied s))

/-- R17, R6: in PASS_THROUGH a valid frame not dealt with under R16 is offered unchanged to the two other ports. A status
frame that passes the tests of R6 and R168 is then delivered to the owner of its kind, one that fails them is counted as
malformed, and a frame of any other kind is not delivered. No route entry is consulted and nothing else changes. -/
def Obligations.PassThroughForwardsToTheOtherPorts : Prop :=
  ∀ (t : Nat) (p : Port) (s : State) (q : Received) (rest : List Received),
    s.held = false → s.mgmt.mode = .passThrough → (s.port p).ingress = q :: rest → q.isMalformed s.node = false →
    q.frame.id.target.toNat ≠ s.node →
    let out : PortSet := { B := p != .B, M := p != .M, T := p != .T }
    let taken := s.setPort p { s.port p with ingress := rest }
    ((∀ k, q.kind = some k → k.isStatus = false) →
      Becomes (.classifyFrame t p) s (s.at t) taken [] fun u => Forwarded s u out q.frame)
    ∧ (∀ k, q.kind = some k → k.isStatus = true → handable k q.frame.data = true →
        ∃ s2, s.delivery t p = some (k, q, s2) ∧ LooksLike (s.at t) taken s2 [] ∧ Forwarded s s2 out q.frame)
    ∧ (∀ k, q.kind = some k → k.isStatus = true → handable k q.frame.data = false →
        Becomes (.classifyFrame t p) s (s.at t)
          (s.setPort p { s.port p with ingress := rest, malformed := bump (s.port p).malformed }) []
          fun u => Forwarded s u out q.frame)

/-- R18, R22, R23, R25: outside PASS_THROUGH a frame that an entry matches advances the entry's hit counter; it is
thinned when it arrives less than the interval after the last forward time; otherwise it is offered to the entry's
forward set less the arrival port, with the entry's rewrite target if it has one, and where that set is not empty an
entry with an interval takes the arrival as its last forward time. Then, if the entry delivers, the frame goes to the
owner of its kind, or is counted as malformed when it fails R6 or R168. The keys of the table are distinct (R19). The
model's choices: a delivered MGMT_REQUEST that is not addressed to the part is tested for its length and has no effect
(assumption log 33), and the last forward time is kept for entries with an interval alone (assumption log 39). -/
def Obligations.RouteEntriesForwardThinAndDeliver : Prop :=
  ∀ (t : Nat) (p : Port) (s : State) (q : Received) (rest : List Received) (e : RouteEntry),
    s.held = false → s.mgmt.mode ≠ .passThrough → (s.port p).ingress = q :: rest → q.isMalformed s.node = false →
    (q.frame.id.kind = 0x85#8 ∨ q.frame.id.kind = 0x90#8 → q.frame.id.target.toNat ≠ s.node ∧ p = .B) →
    lookup s.switch.routes q = some e →
    s.switch.routes.Pairwise (fun a b => a.sameKey b = false) →
    let thinned := ∃ i v, e.interval = some i ∧ e.lastForward = some v ∧ q.arrival < v + i
    let sends := e.forward.less p
    let copy : CmsFrame := match e.rewrite with
      | some n => { q.frame with id := { q.frame.id with target := BitVec.ofNat 7 n } }
      | none => q.frame
    ∀ (out : PortSet) (e' : RouteEntry),
    ((thinned ∧ out = { B := false, M := false, T := false } ∧ e' = { e with hits := bump e.hits })
      ∨ (¬ thinned ∧ out = sends ∧ e' = { e with
          hits := bump e.hits
          lastForward := if e.interval.isSome ∧ (sends.B ∨ sends.M ∨ sends.T) then some q.arrival
            else e.lastForward })) →
    let routed := (s.setRoutes (s.switch.routes.map fun x => if x.kind = e.kind ∧ x.source = e.source then e' else x))
    let taken := routed.setPort p { s.port p with ingress := rest }
    ((e.deliver = false ∨ (∀ k, q.kind = some k → k.hasOwner = false)
        ∨ (q.kind = some .mgmtRequest ∧ handable .mgmtRequest q.frame.data = true)) →
      Becomes (.classifyFrame t p) s (s.at t) taken [] fun u => Forwarded s u out copy)
    ∧ (∀ k, e.deliver = true → q.kind = some k → k.hasOwner = true → k ≠ .mgmtRequest → handable k q.frame.data = true →
        ∃ s2, s.delivery t p = some (k, q, s2) ∧ LooksLike (s.at t) taken s2 [] ∧ Forwarded s s2 out copy)
    ∧ (∀ k, e.deliver = true → q.kind = some k → k.hasOwner = true → handable k q.frame.data = false →
        Becomes (.classifyFrame t p) s (s.at t)
          (routed.setPort p { s.port p with ingress := rest, malformed := bump (s.port p).malformed }) []
          fun u => Forwarded s u out copy)

/-- R21: the exact key takes precedence over ANY; a frame that neither key matches is dropped, the unrouted counter
rises by one and UNROUTED is raised with the arrival port. No copy of it is queued on any port. -/
def Obligations.LookupPrefersTheExactKey : Prop :=
  (∀ (es : List RouteEntry) (q : Received),
    (∀ e, lookup es q = some e → e ∈ es ∧ e.kind = q.frame.id.kind.toNat
      ∧ (e.source = some q.frame.id.source.toNat
        ∨ (e.source = none ∧ ∀ x ∈ es, ¬ (x.kind = q.frame.id.kind.toNat ∧ x.source = some q.frame.id.source.toNat))))
    ∧ (lookup es q = none ↔
        ∀ x ∈ es, x.kind = q.frame.id.kind.toNat → x.source ≠ some q.frame.id.source.toNat ∧ x.source ≠ none))
  ∧ ∀ (t : Nat) (p : Port) (s : State) (q : Received) (rest : List Received),
      s.held = false → s.mgmt.mode ≠ .passThrough → (s.port p).ingress = q :: rest → q.isMalformed s.node = false →
      (q.frame.id.kind = 0x85#8 ∨ q.frame.id.kind = 0x90#8 → q.frame.id.target.toNat ≠ s.node ∧ p = .B) →
      lookup s.switch.routes q = none →
      Becomes (.classifyFrame t p) s (s.at t)
        ({ s with switch := { s.switch with unrouted := bump s.switch.unrouted } }.setPort p
          { s.port p with ingress := rest })
        [.unrouted] fun u =>
          QueuesNothing s u ∧ NothingForwarded s u ∧ Raised s u .unrouted (some (match p with | .B => 0 | .M => 1 | .T => 2))

/-- R26, R28: below 48 frames any frame is admitted at the tail; at 48 a control frame displaces the newest routine
frame, or is dropped and counted as control overflow when none is queued, and a routine frame is dropped. Depth 36,
reached by an admission, disarms the mark. PORT_CONGESTED is called for by that admission with the mark armed, and by
the control overflow. R163: an offer that calls for it raises it, with the port as detail, and one that does not
leaves the flag as it was: a clear flag is set, and where it is unmasked its ATTENTION frame is offered to B, behind
the frame where that went to B; a control overflow of B met by that frame counts as an occurrence (note to R28). A
copy that a classification in PASS_THROUGH offers raises it so. R27, R28: a segment that is ready takes the oldest
frame of the lowest class; at a depth of 24 or below the mark is armed. -/
def Obligations.EgressQueuesDisplaceAndSendByClass : Prop :=
  (∀ (o : Origin) (f : CmsFrame) (ps : PortState),
      let counted : PortState := match o with
        | .forwarded => { ps with forwarded := bump ps.forwarded }
        | .originated => { ps with originated := bump ps.originated }
      (ps.egress.length < 48 →
        ps.offered o f = { counted with
          egress := ps.egress ++ [f], armed := if ps.egress.length = 35 then false else ps.armed }
        ∧ ps.congests f = (ps.armed && decide (ps.egress.length = 35)))
      ∧ (∀ older x newer, ps.egress.length = 48 → f.id.cls.toNat ≤ 3 → ps.egress = older ++ x :: newer →
          4 ≤ x.id.cls.toNat → (∀ y ∈ newer, y.id.cls.toNat ≤ 3) →
          ps.offered o f = { counted with
            egress := older ++ newer ++ [f], egressDropped := bump ps.egressDropped }
          ∧ ps.congests f = false)
      ∧ (ps.egress.length = 48 → f.id.cls.toNat ≤ 3 → (∀ y ∈ ps.egress, y.id.cls.toNat ≤ 3) →
          ps.offered o f = { ps with controlOverflow := bump ps.controlOverflow } ∧ ps.congests f = true)
      ∧ (ps.egress.length = 48 → 4 ≤ f.id.cls.toNat →
          ps.offered o f = { ps with egressDropped := bump ps.egressDropped } ∧ ps.congests f = false))
  ∧ (∀ (s : State) (p : Port) (o : Origin) (f : CmsFrame),
      let n := match p with | .B => 0 | .M => 1 | .T => 2
      let old := s.flag .portCongested
      let attention : CmsFrame :=
        { id := { cls := 2#3, kind := 0x84#8, source := BitVec.ofNat 7 s.node, target := 0#7, last := true, part := 0#3 }
          data := [0#8, BitVec.ofNat 8 n] }
      let bridge := if p = .B then (s.port .B).offered o f else s.port .B
      let u := s.offer p o f
      let offeredAlone := u.port p = (s.port p).offered o f ∧ ∀ p', p' ≠ p → u.port p' = s.port p'
      u.quiet = s.quiet ∧ FlagsKept s u []
      ∧ ((s.port p).congests f = false → u.flag .portCongested = old ∧ offeredAlone)
      ∧ ((s.port p).congests f = true → old.isSet = true ∨ old.masked = true →
          Raised s u .portCongested (some n) ∧ offeredAlone)
      ∧ ((s.port p).congests f = true → old.isSet = false → old.masked = false →
          u.flag .portCongested = { old with
            isSet := true, detail := some n, count := if bridge.congests attention then bump old.count else old.count }
          ∧ u.port .B = bridge.offered .originated attention
          ∧ (p ≠ .B → u.port p = (s.port p).offered o f)
          ∧ ∀ p', p' ≠ .B → p' ≠ p → u.port p' = s.port p'))
  ∧ (∀ (t : Nat) (p p' : Port) (s : State) (q : Received) (rest : List Received),
      s.held = false → s.mgmt.mode = .passThrough → (s.port p).ingress = q :: rest → q.isMalformed s.node = false →
      q.frame.id.target.toNat ≠ s.node → (∀ k, q.kind = some k → k.isStatus = false) →
      p' ≠ p → (s.port p').congests q.frame = true →
      (∀ p'', p'' ≠ p → p'' ≠ p' → (s.port p'').congests q.frame = false) →
      Answers (exec (.classifyFrame t p) s) fun u => (u.flag .portCongested).isSet = true
        ∧ (u.flag .portCongested).detail = if (s.flag .portCongested).isSet = true then (s.flag .portCongested).detail
            else some (match p' with | .B => 0 | .M => 1 | .T => 2))
  ∧ (∀ (t : Nat) (p : Port) (s : State) (older newer : List CmsFrame) (f : CmsFrame),
      s.held = false → NothingDue s → (s.port p).egress = older ++ f :: newer →
      (∀ x ∈ older, f.id.cls.toNat < x.id.cls.toNat) → (∀ x ∈ newer, f.id.cls.toNat ≤ x.id.cls.toNat) →
      exec (.segmentTakesFrame t p) s = .next ((s.at t).setPort p { s.port p with
        egress := older ++ newer
        armed := if older.length + newer.length ≤ 24 then true else (s.port p).armed }))

/-- The rows of the table that begin with the frame at the head of a port's queue are one step of the part: where the head
is delivered to an owner, or completes a request, CLASSIFY_FRAME does what the row of that kind or request does, and so
does MGMT_REQUEST_PART for a request (the model's reading of the table: assumption log 4). -/
def Obligations.ClassificationIsTheOwnersStep : Prop :=
  (∀ (t : Nat) (p : Port) (s : State) (k : MsgKind) (q : Received) (s1 : State), s.delivery t p = some (k, q, s1) →
    exec (.classifyFrame t p) s = (match k with
      | .speedDemand => exec (.speedDemand t p) s
      | .groupDemand => exec (.groupDemand t p) s
      | .neutralDemand => exec (.neutralDemand t p) s
      | .kickDemand => exec (.kickDemand t p) s
      | .crashAstern => exec (.crashAstern t p) s
      | .helmDemand => exec (.helmDemand t p) s
      | .takeCommand => exec (.takeCommand t p) s
      | .releaseCommand => exec (.releaseCommand t p) s
      | .couplingOrder => (match demandOrder q.frame.data with
        | .makeUp => exec (.makeUp t p) s
        | .ease => exec (.ease t p) s
        | .release => exec (.release t p) s
        | .lock => exec (.lock t p) s
        | .unlock => exec (.unlock t p) s
        | .lockAll => exec (.lockAll t p) s
        | .unlockAll => exec (.unlockAll t p) s
        | .permit => exec (.permit t p) s)
      | .engineStatus => exec (.engineStatus t p) s
      | .steerStatus => exec (.steerStatus t p) s
      | .winchStatus => exec (.winchStatus t p) s
      | .pumpStatus => exec (.pumpStatus t p) s
      | .meterReading => exec (.meterReading t p) s
      | _ => exec (.classifyFrame t p) s))
  ∧ ∀ (t : Nat) (s s2 : State) (source : Nat) (m : List Byte) (c : Instr), s.completed t = some (source, m, s2) →
      (requestOf m).command t = some c →
      exec (.classifyFrame t .B) s = exec c s ∧ exec (.mgmtRequestPart t .B) s = exec c s

/-- R16, R10: a MGMT_REQUEST part addressed to the part, on B, is handed to the management block. A part 0 that is not the
last, of 8 bytes, opens a slot, or restarts the source's slot: with its bytes, its request code, next expected index 1 and
500 ms to run; with no slot to be had the answer is BUSY. A shorter one is answered PART_ERROR, an empty one counted, and
either gives up the source's slot. A part 0 that is the last completes a request and gives up the source's slot. R11: a
later part extends the source's slot when it has the index the slot expects, completes the message when it is the last,
and otherwise gives the slot up with PART_ERROR; a part with no slot is counted and dropped. R12: at the expiry of its
timer a slot is given up without a reply, the malformed counter of B rises by one, and PART_ERROR is raised with the
source. -/
def Obligations.RequestsAreReassembledInTheirSlots : Prop :=
  ((∀ (t : Nat) (s : State) (q : Received) (rest : List Received),
      s.held = false → s.switch.B.ingress = q :: rest → q.isMalformed s.node = false → q.frame.id.kind = 0x90#8 →
      q.frame.id.target.toNat = s.node →
      s.handed t = some (q, (s.at t).setPort .B { s.switch.B with ingress := rest }))
    ∧ ∀ (t : Nat) (s s1 : State) (q : Received), s.handed t = some (q, s1) → q.frame.id.part = 0#3 →
      let source := q.frame.id.source.toNat
      let data := q.frame.data
      let fresh : Assembly := { source := source, code := data.getD 0 0, next := 1, bytes := data, expiry := s1.now + 500 }
      (∀ i, q.frame.id.last = false → data.length = 8 → s1.slotOf source = some i →
        Becomes (.mgmtRequestPart t .B) s s1 (s1.setSlot i (some fresh)) [] (QueuesNothing s1))
      ∧ (∀ i, q.frame.id.last = false → data.length = 8 → s1.slotOf source = none → s1.freeSlot = some i →
          Becomes (.mgmtRequestPart t .B) s s1 (s1.setSlot i (some fresh)) [] (QueuesNothing s1))
      ∧ (q.frame.id.last = false → data.length = 8 → s1.slotOf source = none → s1.freeSlot = none →
          Becomes (.mgmtRequestPart t .B) s s1 s1 [] fun u =>
            QueuesNothing s1 u ∧ Replies s1 u source [data.getD 0 0, 2#8])
      ∧ (q.frame.id.last = false → 1 ≤ data.length → data.length < 8 →
          Becomes (.mgmtRequestPart t .B) s s1 (s1.dropSlot source) [.partError] fun u =>
            Raised s1 u .partError (some source) ∧ Replies s1 u source [data.getD 0 0, 9#8])
      ∧ (q.frame.id.last = false → data = [] →
          Becomes (.mgmtRequestPart t .B) s s1 ((s1.dropSlot source).countMalformed .B) [] (QueuesNothing s1))
      ∧ (q.frame.id.last = true → data = [] →
          Becomes (.mgmtRequestPart t .B) s s1 (s1.countMalformed .B) [] (QueuesNothing s1))
      ∧ (q.frame.id.last = true → data ≠ [] → s.completed t = some (source, data, s1.dropSlot source)))
  ∧ (∀ (t : Nat) (s s1 : State) (q : Received), s.handed t = some (q, s1) → q.frame.id.part ≠ 0#3 →
      let source := q.frame.id.source.toNat
      let data := q.frame.data
      let k := q.frame.id.part.toNat
      (s1.slotOf source = none →
        Becomes (.mgmtRequestPart t .B) s s1 (s1.countMalformed .B) [] (QueuesNothing s1))
      ∧ ∀ i a, s1.slotOf source = some i → s1.mgmt.slots.get i = some a →
        (a.next = k → q.frame.id.last = false → data.length = 8 → k ≤ 6 →
          Becomes (.mgmtRequestPart t .B) s s1
            (s1.setSlot i (some { a with next := k + 1, bytes := a.bytes ++ data, expiry := s1.now + 500 })) []
            (QueuesNothing s1))
        ∧ (a.next = k → q.frame.id.last = true → data ≠ [] →
            s.completed t = some (source, a.bytes ++ data, s1.setSlot i none))
        ∧ ((a.next ≠ k ∨ (q.frame.id.last = true ∧ data = [])
              ∨ (q.frame.id.last = false ∧ (data.length < 8 ∨ k = 7))) →
            Becomes (.mgmtRequestPart t .B) s s1 (s1.setSlot i none) [.partError] fun u =>
              Raised s1 u .partError (some source) ∧ Replies s1 u source [a.code, 9#8]))
  ∧ (∀ (t : Nat) (i : Fin 2) (s : State) (a : Assembly), s.held = false → s.mgmt.slots.get i = some a →
      a.expiry ≤ (s.at t).now →
      Becomes (.assemblyTimerExpiry t i) s (s.at t) ((s.setSlot i none).countMalformed .B) [.partError] fun u =>
        QueuesNothing s u ∧ Raised s u .partError (some a.source)
        ∧ ∀ f ∈ (u.port .B).egress, f.id.kind = MsgKind.mgmtReply.number → f ∈ (s.port .B).egress)

/-! ## Management requests (chapter 10 and the request rules of each chapter) -/

/-- R159, R162: a request is tested for its code, then for its length and the table it names, then for LAID_UP, before
its owner sees it, and a refused request changes nothing but the arming record. Section 11.6: the tables are 0 to 9,
and the lengths are those of the layouts: 1 byte, but 2 for CLEAR_TABLE, CLOSE_BANK, READ_STATUS, READ_TANK,
CANCEL_TRANSFER, SUSPEND_TRANSFER, RESUME_TRANSFER, READ_EVENTS and READ_COUNTERS, 3 for READ_ROW and section 4 of
READ_STATUS, 4 for SET_CAP, 5 for RECONCILE, CLEAR_EVENTS and SET_MASK, 6 for OPEN_TANK, ADJUST_TANK and SOUNDING, 10
for TRANSFER, and 3 with the row for LOAD_ROW. R162: LAID_UP refuses every LOAD_ROW and CLEAR_TABLE, CLOSE_BANK,
SWAP_BANK and ENGAGE. -/
def Obligations.RequestsAreTestedForCodeLengthAndMode : Prop :=
  (∀ m : List Byte, requestOf m = .unknown ↔ m.getD 0 0 ∉
    [0x01#8, 0x02#8, 0x10#8, 0x11#8, 0x12#8, 0x13#8, 0x14#8, 0x20#8, 0x21#8, 0x22#8, 0x23#8, 0x28#8, 0x30#8, 0x31#8,
     0x32#8, 0x33#8, 0x34#8, 0x35#8, 0x36#8, 0x37#8, 0x38#8, 0x39#8, 0x40#8, 0x41#8, 0x42#8, 0x43#8, 0x50#8, 0x51#8])
  ∧ (∀ m : List Byte, requestOf m = .badTable ↔
      (u8 m 0 = 0x10 ∨ u8 m 0 = 0x11 ∨ u8 m 0 = 0x13) ∧ (m.length < 2 ∨ 9 < u8 m 1))
  ∧ (∀ m : List Byte, requestOf m ≠ .unknown → requestOf m ≠ .badTable →
      ((requestOf m).needsAwake = true ↔
        u8 m 0 = 0x10 ∨ u8 m 0 = 0x12 ∨ u8 m 0 = 0x13 ∨ u8 m 0 = 0x14 ∨ u8 m 0 = 0x20)
      ∧ (requestOf m).length m = (match u8 m 0 with
        | 0x02 => if u8 m 1 = 4 then 3 else 2
        | 0x10 => (match u8 m 1 with
          | 0 => 3 + 7
          | 1 => if u8 m 2 = 4 then 3 + 4 else 3 + 6
          | 2 => 3 + 34
          | 3 => 3 + 4
          | 4 => 3 + 19
          | 5 | 6 => 3 + 6
          | 7 => 3 + 30
          | 8 => 3 + 22
          | _ => 3 + 12)
        | 0x11 => 3
        | 0x13 | 0x14 | 0x32 | 0x34 | 0x35 | 0x36 | 0x40 | 0x43 => 2
        | 0x28 => 4
        | 0x30 | 0x31 | 0x38 => 6
        | 0x33 => 10
        | 0x39 | 0x41 | 0x42 => 5
        | _ => 1))
  ∧ ∀ (t source : Nat) (m : List Byte) (s s2 : State), s.completed t = some (source, m, s2) →
    (requestOf m = .unknown → Refused (.unknownRequest t) source m s s2 .unknownRequest)
    ∧ (requestOf m ≠ .unknown → (requestOf m = .badTable ∨ m.length < (requestOf m).length m) →
        Refused (.mgmtRequestPart t .B) source m s s2 .range)
    ∧ (requestOf m ≠ .unknown → requestOf m ≠ .badTable → (requestOf m).length m ≤ m.length →
        (requestOf m).needsAwake = true → s2.mgmt.mode = .laidUp →
        Refused (.mgmtRequestPart t .B) source m s s2 .laidUp)

/-- R160, R30, R129, R143, R159, R164: the reads are answered DONE and change nothing but the arming record. IDENTIFY
answers vendor 0E41h, part 0264h, revision 02h, the node number and the mode. READ_STATUS of a section above 4 is
refused RANGE, and section 4 from a first place at or beyond the number of soundings listed tells that number and no
entries. The model's choices: the layout of the other bodies is free (assumption log 7); the fields READ_COUNTERS lays
out are the port's seven counters and the unrouted counter; READ_ROW of index 4 of the station table is answered as
the timing row (assumption log 34). -/
def Obligations.ReadsChangeNothing : Prop :=
  ∀ (t source : Nat) (m : List Byte) (s s2 : State),
    (Completes t .identify source m s s2 →
      Served (.identify t) source m s s2 s2
        [0x0E#8, 0x41#8, 0x02#8, 0x64#8, 0x02#8, BitVec.ofNat 8 s2.node,
         (match s2.mgmt.mode with | .passThrough => 0#8 | .coordinating => 1#8 | .laidUp => 2#8)] [] (QueuesNothing s2))
    ∧ (Completes t .readStatus source m s s2 → u8 m 1 ≤ 4 →
        ∃ body, body.length ≤ 62 ∧ Served (.readStatus t) source m s s2 s2 body [] (QueuesNothing s2))
    ∧ (Completes t .readStatus source m s s2 → 4 < u8 m 1 → Refused (.readStatus t) source m s s2 .range)
    ∧ (Completes t .readStatus source m s s2 → u8 m 1 = 4 →
        let entries := ((indices 16).filter (fun k => (s2.transfers.soundings.get k).isSome)).length
        entries ≤ u8 m 2 → ∃ layout, Served (.readStatus t) source m s s2 s2
          ((Config.replyBody layout [some (entries : Int)]).take 62) [] (QueuesNothing s2))
    ∧ (Completes t .readRow source m s s2 →
        (u8 m 1 = 0 ∧ u8 m 2 < s2.switch.routes.length ∨ u8 m 1 = 1 ∧ u8 m 2 ≤ 4 ∨ u8 m 1 = 2 ∧ u8 m 2 ≤ 3
          ∨ u8 m 1 = 3 ∧ u8 m 2 ≤ 1 ∨ u8 m 1 = 4 ∧ u8 m 2 ≤ 7 ∨ u8 m 1 = 5 ∧ u8 m 2 ≤ 7 ∨ u8 m 1 = 6 ∧ u8 m 2 ≤ 7
          ∨ u8 m 1 = 7 ∧ u8 m 2 ≤ 31 ∨ u8 m 1 = 8 ∧ u8 m 2 ≤ 15 ∨ u8 m 1 = 9 ∧ u8 m 2 ≤ 7) →
        ∃ body, body.length ≤ 62 ∧ Served (.readRow t) source m s s2 s2 body [] (QueuesNothing s2))
    ∧ (Completes t .readTank source m s s2 → u8 m 1 ≤ 15 →
        ∃ body, body.length ≤ 62 ∧ Served (.readTank t) source m s s2 s2 body [] (QueuesNothing s2))
    ∧ (Completes t .readTransfer source m s s2 →
        ∃ body, body.length ≤ 62 ∧ Served (.readTransfer t) source m s s2 s2 body [] (QueuesNothing s2))
    ∧ (Completes t .readEvents source m s s2 → u8 m 1 ≤ 26 →
        ∃ body, body.length ≤ 62 ∧ Served (.readEvents t) source m s s2 s2 body [] (QueuesNothing s2))
    ∧ (∀ p : Port, Completes t .readCounters source m s s2 →
        u8 m 1 = (match p with | .B => 0 | .M => 1 | .T => 2) →
        ∃ layout, Served (.readCounters t) source m s s2 s2
          ((Config.replyBody layout [some ((s2.port p).received : Int), some ((s2.port p).forwarded : Int),
            some ((s2.port p).originated : Int), some ((s2.port p).ingressOverflow : Int),
            some ((s2.port p).egressDropped : Int), some ((s2.port p).controlOverflow : Int),
            some ((s2.port p).malformed : Int), some (s2.switch.unrouted : Int)]).take 62) [] (QueuesNothing s2))

/-- R19: a valid route entry replaces the entry of its key, hit counter and last forward time reset, or takes its
place in key order while the table holds fewer than 128; a new key for a full table is refused RANGE, and so is a row
that is no row. Section 11.6: values stand in a message with the most significant byte first, and the bytes 3 to 9 of
a LOAD_ROW of the route table are kind, source (255 ANY), forward set, deliver, rewrite target (255 none) and interval
(0 none), each in its range, or the row is no row. -/
def Obligations.RouteEntriesLoadByKey : Prop :=
  (∀ (t source : Nat) (m : List Byte) (s s2 : State) (e : RouteEntry),
    Completes t .loadRoute source m s s2 →
    (routeEntryOf s2.node m = none → Refused (.loadRouteEntry t) source m s s2 .range)
    ∧ (routeEntryOf s2.node m = some e →
    (((∃ x ∈ s2.switch.routes, x.kind = e.kind ∧ x.source = e.source) ∨ s2.switch.routes.length < 128) →
      Served (.loadRouteEntry t) source m s s2 (s2.setRoutes (insertRoute e s2.switch.routes)) [] [] (QueuesNothing s2))
    ∧ ((∀ x ∈ s2.switch.routes, ¬ (x.kind = e.kind ∧ x.source = e.source)) → 128 ≤ s2.switch.routes.length →
      Refused (.loadRouteEntry t) source m s s2 .range)))
  ∧ (∀ (e : RouteEntry) (es : List RouteEntry),
      es.Pairwise (fun a b => a.key < b.key) →
      (insertRoute e es).Pairwise (fun a b => a.key < b.key)
      ∧ ∀ x, x ∈ insertRoute e es ↔ (x = e ∨ (x ∈ es ∧ x.key ≠ e.key)))
  ∧ (∀ (m : List Byte) (k : Nat),
      u8 m k = (m.getD k 0#8).toNat ∧ u16 m k = u8 m k * 2 ^ 8 + u8 m (k + 1)
      ∧ u32 m k = u8 m k * 2 ^ 24 + u8 m (k + 1) * 2 ^ 16 + u8 m (k + 2) * 2 ^ 8 + u8 m (k + 3)
      ∧ i16 m k = if u16 m k < 32768 then (u16 m k : Int) else (u16 m k : Int) - 65536)
  ∧ ∀ (own : Nat) (m : List Byte) (e : RouteEntry), routeEntryOf own m = some e ↔
      e.kind = u8 m 3
      ∧ (e.source = none ∧ u8 m 4 = 255 ∨ e.source = some (u8 m 4) ∧ NodeOk own (u8 m 4))
      ∧ u8 m 5 < 8 ∧ e.forward.B = (u8 m 5).testBit 0 ∧ e.forward.M = (u8 m 5).testBit 1
      ∧ e.forward.T = (u8 m 5).testBit 2
      ∧ u8 m 6 < 2 ∧ e.deliver = decide (u8 m 6 = 1)
      ∧ (e.rewrite = none ∧ u8 m 7 = 255 ∨ e.rewrite = some (u8 m 7) ∧ u8 m 7 ≤ 126 ∧ u8 m 7 ≠ own)
      ∧ (e.interval = none ∧ u16 m 8 = 0 ∨ e.interval = some (u16 m 8) ∧ 10 ≤ u16 m 8 ∧ u16 m 8 ≤ 10000)
      ∧ e.hits = 0 ∧ e.lastForward = none

/-- R32, R81, R95, R132: a valid row of the station table, the group table, the standby bank or the meter channel
table replaces the row at its index: a station's refusal count becomes 0, the standby bank's complete flag is cleared,
a channel's record takes its power-on values and its meter timer starts. R92, R94: a valid actuator row replaces the
row of an actuator that is not TRACKING; its record takes its reset values, and its status timer starts in
COORDINATING. A load is refused RANGE for an index beyond the table, for a row that is no row, and for the node of
another row; ROW_IN_USE for a station in command and for the active bank; BAD_STATE for a TRACKING actuator;
TRANSFER_ACTIVE for the channel of a transfer in either slot. R81, R87, R90: where a group's hold has already passed
under the loaded hold limit, it expires as the load is taken: the members that lag by more than the tolerance in force
leave, OUT_OF_STEP raised, and the hold timer stops. R33: a timing row in range replaces the row; where neither a
running demand timeout nor a running hold has passed its moment under the new row, nothing else changes; where the
demand timeout of an ATTENDED PROP has passed, PROP is HOLDING in the load's own step. The model's choices: a timer
whose moment is the present one has already passed, for the demand timeout and for the group's hold (assumption log
30), a station index above 4 is refused RANGE (assumption log 34), and RANGE is tested before the state of what the
row is for, but after ROW_IN_USE of the active bank (assumption log 53). Section 11.6 and the table of each chapter:
which bytes of the request give which field of a station, group, bank, meter channel or actuator row, and the range
that each field must keep. -/
def Obligations.RowLoadsReplaceTheRow : Prop :=
  (∀ (t source : Nat) (m : List Byte) (s s2 : State),
      (∀ (i : Fin 4) (row : StationRow), Completes t .loadStation source m s s2 → u8 m 2 = i.val →
        stationRowOf s2.node m = some row →
        (∀ j x, j ≠ i → s2.intake.stations.get j = some x → x.node ≠ row.node) →
        s2.intake.prop.station ≠ some i → s2.intake.steer.station ≠ some i →
        Served (.loadStationRow t) source m s s2
          { s2 with intake := { s2.intake with
              stations := s2.intake.stations.set i (some row), refusals := s2.intake.refusals.set i 0 } }
          [] [] (QueuesNothing s2))
      ∧ (∀ (g : Fin 2) (row : GroupRow), Completes t .loadGroup source m s s2 → u8 m 2 = g.val →
          groupRowOf m = some row →
          (∀ since, (s2.groups.recs.get g).holdStart = some since → s2.now < since + row.holdLimit) →
          Served (.loadGroupRow t) source m s s2
            { s2 with groups := { s2.groups with rows := s2.groups.rows.set g (some row) } } [] [] (QueuesNothing s2))
      ∧ (∀ (a : Fin 8) (row : Gains), Completes t .loadBank source m s s2 → u8 m 2 = a.val → gainsOf m = some row →
          ∀ b : Bank, u8 m 1 = (match b with | .A => 5 | .B => 6) → b ≠ s2.steering.active →
          Served (.loadBankRow t) source m s s2
            { s2 with steering := (match b with
                | .A => { s2.steering with bankA := s2.steering.bankA.set a (some row), complete := false }
                | .B => { s2.steering with bankB := s2.steering.bankB.set a (some row), complete := false }) }
            [] [] (QueuesNothing s2))
      ∧ (∀ (ch : Fin 8) (row : ChanRow), Completes t .loadChannel source m s s2 → u8 m 2 = ch.val →
          chanRowOf s2.node m = some row →
          (∀ j x, j ≠ ch → s2.fuel.channels.get j = some x → x.node ≠ row.node) → s2.channelBusy ch = false →
          Served (.loadMeterChannelRow t) source m s s2
            { s2 with fuel := { s2.fuel with
                channels := s2.fuel.channels.set ch (some row)
                recs := s2.fuel.recs.set ch { ChanRec.reset with timer := some (s2.now + row.timeout) } } }
            [] [] (QueuesNothing s2)))
  ∧ (∀ (t source : Nat) (m : List Byte) (s s2 : State) (g : Fin 2) (row : GroupRow) (since : Nat),
      Completes t .loadGroup source m s s2 → u8 m 2 = g.val → groupRowOf m = some row →
      (s2.groups.recs.get g).holdStart = some since → since + row.holdLimit ≤ s2.now →
      let loaded := { s2 with groups := { s2.groups with rows := s2.groups.rows.set g (some row) } }
      let r := s2.groups.recs.get g
      let late : Fin 4 → Prop := fun l => l ∈ s2.members g
        ∧ (r.tolerance : Int) < (r.point : Int) - (((s2.lane l).speed.getD 0 : Nat) : Int)
      Answers (exec (.loadGroupRow t) s) fun u =>
        u.now = s2.now ∧ FlagsKept s2 u [.outOfStep] ∧ QueuesNothing s2 u ∧ Replies s2 u source [m.getD 0 0, 0#8]
        ∧ u.lessDrive = (loaded.setArming none).lessDrive ∧ u.lanes.ceils = s2.lanes.ceils
        ∧ u.steering = { s2.steering with summaryAt := u.steering.summaryAt }
        ∧ (∀ l, late l → (u.lane l).core = { (s2.lane l).core with inStep := false })
        ∧ (∀ l, ¬ late l → (u.lane l).core = (s2.lane l).core)
        ∧ ((∃ l, late l) → (u.flag .outOfStep).isSet = true)
        ∧ ((∀ l, ¬ late l) → u.flag .outOfStep = s2.flag .outOfStep)
        ∧ (∀ i, i ≠ g → u.groups.recs.get i = s2.groups.recs.get i)
        ∧ ((∃ l, late l) → (∀ l ∈ s2.members g, late l) →
            u.groups.recs.get g = { r with holdStart := none, rampTimer := none })
        ∧ (¬ ((∃ l, late l) ∧ ∀ l ∈ s2.members g, late l) → u.groups.recs.get g = { r with holdStart := none }))
  ∧ (∀ (t source : Nat) (m : List Byte) (s s2 : State),
      (Completes t .loadStation source m s s2 →
          (4 ≤ u8 m 2 ∨ stationRowOf s2.node m = none
            ∨ ∃ row j x, stationRowOf s2.node m = some row ∧ j.val ≠ u8 m 2 ∧ s2.intake.stations.get j = some x
              ∧ x.node = row.node) →
          Refused (.loadStationRow t) source m s s2 .range)
      ∧ (∀ (i : Fin 4) (row : StationRow), Completes t .loadStation source m s s2 → u8 m 2 = i.val →
          stationRowOf s2.node m = some row →
          (∀ j x, j ≠ i → s2.intake.stations.get j = some x → x.node ≠ row.node) →
          (s2.intake.prop.station = some i ∨ s2.intake.steer.station = some i) →
          Refused (.loadStationRow t) source m s s2 .rowInUse)
      ∧ (Completes t .loadGroup source m s s2 → (2 ≤ u8 m 2 ∨ groupRowOf m = none) →
          Refused (.loadGroupRow t) source m s s2 .range)
      ∧ (∀ b : Bank, Completes t .loadBank source m s s2 → u8 m 1 = (match b with | .A => 5 | .B => 6) →
          (b = s2.steering.active → Refused (.loadBankRow t) source m s s2 .rowInUse)
          ∧ (b ≠ s2.steering.active → (8 ≤ u8 m 2 ∨ gainsOf m = none) → Refused (.loadBankRow t) source m s s2 .range))
      ∧ (Completes t .loadChannel source m s s2 →
          (8 ≤ u8 m 2 ∨ chanRowOf s2.node m = none
            ∨ ∃ row j x, chanRowOf s2.node m = some row ∧ j.val ≠ u8 m 2 ∧ s2.fuel.channels.get j = some x
              ∧ x.node = row.node) →
          Refused (.loadMeterChannelRow t) source m s s2 .range)
      ∧ (∀ (ch : Fin 8) (row : ChanRow), Completes t .loadChannel source m s s2 → u8 m 2 = ch.val →
          chanRowOf s2.node m = some row →
          (∀ j x, j ≠ ch → s2.fuel.channels.get j = some x → x.node ≠ row.node) →
          (∃ x, (s2.transfers.active = some x ∨ s2.transfers.waiting = some x) ∧ x.channel = ch) →
          Refused (.loadMeterChannelRow t) source m s s2 .transferActive)
      ∧ (Completes t .loadActuator source m s s2 →
          (8 ≤ u8 m 2 ∨ actRowOf s2.node m = none
            ∨ ∃ row j x, actRowOf s2.node m = some row ∧ j.val ≠ u8 m 2 ∧ s2.steering.rows.get j = some x
              ∧ x.node = row.node) →
          Refused (.loadActuatorRow t) source m s s2 .range)
      ∧ (∀ (a : Fin 8) (row : ActRow), Completes t .loadActuator source m s s2 → u8 m 2 = a.val →
          actRowOf s2.node m = some row →
          (∀ j x, j ≠ a → s2.steering.rows.get j = some x → x.node ≠ row.node) → (s2.act a).state = .tracking →
          Refused (.loadActuatorRow t) source m s s2 .badState))
  ∧ (∀ (t source : Nat) (m : List Byte) (s s2 : State) (a : Fin 8) (row : ActRow),
      Completes t .loadActuator source m s s2 → u8 m 2 = a.val → actRowOf s2.node m = some row →
      (∀ j x, j ≠ a → s2.steering.rows.get j = some x → x.node ≠ row.node) → (s2.act a).state ≠ .tracking →
      Served (.loadActuatorRow t) source m s s2
        ({ s2 with steering := { s2.steering with rows := s2.steering.rows.set a (some row) } }.setAct a
          { ActRec.reset with
            statusTimer := if s2.mgmt.mode = Mode.coordinating then some (s2.now + row.statusTimeout) else none })
        [] [] (QueuesNothing s2))
  ∧ (∀ (t source : Nat) (m : List Byte) (s s2 : State), Completes t .loadTiming source m s s2 →
      (500 ≤ u16 m 3 ∧ u16 m 3 ≤ 10000 ∧ u16 m 5 ≤ 30000 →
        (∀ j : Job, (s2.job j).loss = .attended → ∀ h, (s2.job j).lastHeard = some h → s2.now < h + u16 m 3) →
        (∀ j : Job, ∀ since, (s2.job j).loss = .holding since → s2.now < since + u16 m 5) →
        Served (.loadTimingRow t) source m s s2
          { s2 with intake := { s2.intake with demandTimeout := u16 m 3, holdTime := u16 m 5 } } [] [] (QueuesNothing s2))
      ∧ (500 ≤ u16 m 3 ∧ u16 m 3 ≤ 10000 ∧ 1 ≤ u16 m 5 ∧ u16 m 5 ≤ 30000 → ∀ h, s2.intake.prop.lastHeard = some h →
          s2.intake.prop.loss = .attended → h + u16 m 3 ≤ s2.now →
          Answers (exec (.loadTimingRow t) s) fun u => u.intake.prop.loss = .holding s2.now
            ∧ u.intake.demandTimeout = u16 m 3 ∧ u.intake.holdTime = u16 m 5)
      ∧ (¬ (500 ≤ u16 m 3 ∧ u16 m 3 ≤ 10000 ∧ u16 m 5 ≤ 30000) → Refused (.loadTimingRow t) source m s s2 .range))
  ∧ (∀ (own : Nat) (m : List Byte),
      (∀ r : StationRow, stationRowOf own m = some r ↔
        r.node = u8 m 3 ∧ NodeOk own r.node
        ∧ u8 m 4 < 16 ∧ r.prop = (u8 m 4).testBit 0 ∧ r.steer = (u8 m 4).testBit 1 ∧ r.couple = (u8 m 4).testBit 2
        ∧ r.override = (u8 m 4).testBit 3
        ∧ r.speedTol = u16 m 5 ∧ r.speedTol ≤ 2000 ∧ r.helmTol = u16 m 7 ∧ r.helmTol ≤ 200)
      ∧ (∀ r : GroupRow, groupRowOf m = some r ↔
          r.tolerance = u16 m 3 ∧ 10 ≤ r.tolerance ∧ r.tolerance ≤ 2000
          ∧ r.holdLimit = u16 m 5 ∧ 1000 ≤ r.holdLimit ∧ r.holdLimit ≤ 30000)
      ∧ (∀ r : Gains, gainsOf m = some r ↔
          r.ahead = i16 m 3 ∧ r.astern = i16 m 5 ∧ r.neutral = i16 m 7
          ∧ -1000 ≤ r.ahead ∧ r.ahead ≤ 1000 ∧ -1000 ≤ r.astern ∧ r.astern ≤ 1000
          ∧ -1000 ≤ r.neutral ∧ r.neutral ≤ 1000)
      ∧ (∀ r : ChanRow, chanRowOf own m = some r ↔
          r.node = u8 m 3 ∧ NodeOk own r.node
          ∧ (u8 m 4 = 0 ∧ r.kind = .engine ∧ r.returnPulse = some (u16 m 7) ∧ u16 m 7 ≠ 0
            ∨ u8 m 4 = 1 ∧ r.kind = .transfer ∧ r.returnPulse = none ∧ u16 m 7 = 0)
          ∧ r.supplyPulse = u16 m 5 ∧ 1 ≤ r.supplyPulse ∧ r.cap = u16 m 9 ∧ 1 ≤ r.cap
          ∧ r.timeout = u16 m 11 ∧ 500 ≤ r.timeout ∧ r.timeout ≤ 60000
          ∧ r.density = u16 m 13 ∧ 6000 ≤ r.density ∧ r.density ≤ 10000)
      ∧ ∀ r : ActRow, actRowOf own m = some r ↔
          r.node = u8 m 3 ∧ NodeOk own r.node ∧ (u8 m 4 = 1 ∧ r.port = .M ∨ u8 m 4 = 2 ∧ r.port = .T)
          ∧ (u8 m 5 = 0 ∧ r.kind = .mainRudder ∨ u8 m 5 = 1 ∧ r.kind = .flankingRudder
            ∨ u8 m 5 = 2 ∧ r.kind = .thruster)
          ∧ r.lane.val = u8 m 6 ∧ r.fullScale = u16 m 7
          ∧ (if r.kind = .thruster then r.fullScale = 1000 else 1 ≤ r.fullScale ∧ r.fullScale ≤ 900)
          ∧ r.limit = u16 m 9 ∧ 1 ≤ r.limit ∧ r.limit ≤ r.fullScale
          ∧ r.rate = u16 m 11 ∧ 1 ≤ r.rate ∧ r.rate ≤ r.fullScale
          ∧ u8 m 13 ≤ 4 ∧ r.path.map Fin.val = [u8 m 14, u8 m 15, u8 m 16, u8 m 17].take (u8 m 13) ∧ r.path.Nodup
          ∧ r.refresh = u16 m 18 ∧ 50 ≤ r.refresh ∧ r.refresh ≤ 1000
          ∧ r.statusTimeout = u16 m 20 ∧ 200 ≤ r.statusTimeout ∧ r.statusTimeout ≤ 5000)

/-- R48, R77, R100: a valid lane row replaces the row of a lane in UNSYNCED, STOPPED or FAULT; the lane's record takes
its reset values, the actuators it steers are evaluated, and the lane's ceiling record is brought into line: the cap
raised to the new idle speed, TENSION as the derate of the row's boat stands, FUEL_RESERVE as its feed tank stands,
COMMAND_LOSS as PROP stands. R108, R125, R80, R106: a valid coupling row replaces the row of a coupling in UNSYNCED,
RELEASED or FAULT and puts it in UNSYNCED with its lock set. Every loaded lane's TENSION entry stands at the derate of
its boat as it then is, and every TRACKING actuator whose reach path names the coupling becomes UNREACHABLE. Nothing
outside lanes, groups, actuators and this coupling changes. Either load is refused RANGE for an index beyond the
table, for a row that is no row, for the node of another row, and for a lane row with the meter channel of another
lane or another idle speed than a home member of its group; and BAD_STATE in any other state of the lane or coupling.
The model's choice: RANGE is tested before BAD_STATE (assumption log 53). Section 11.6, 4.1 and 7.1: which bytes of
the request give which field of a lane or coupling row, and the range that each field must keep. -/
def Obligations.LaneAndCouplingRowsLoadWithTheirCeilings : Prop :=
  (∀ (t source : Nat) (m : List Byte) (s s2 : State) (l : Fin 4) (row : LaneRow),
      Completes t .loadLane source m s s2 → u8 m 2 = l.val → laneRowOf s2.node m = some row →
      (∀ j x, j ≠ l → s2.lanes.rows.get j = some x → x.node ≠ row.node ∧ x.channel ≠ row.channel
        ∧ (row.home ≠ none → x.home = row.home → x.idle = row.idle)) →
      ((s2.lane l).state = .unsynced ∨ (s2.lane l).state = .stopped ∨ (s2.lane l).state = .fault) →
      let loaded := { s2 with lanes := { s2.lanes with rows := s2.lanes.rows.set l (some row) } }
      let old := s2.lanes.ceils.get l
      let kept : Ceilings :=
        { mgmtCap := old.mgmtCap.map (fun v => max v row.idle)
          tension := if s2.boatDerate row.boat < 1000 then some (s2.boatDerate row.boat) else none
          fuelReserve := if (s2.fuel.tanks.get row.feedTank).any (fun tank => tank.kind == .feed) = true
              ∧ (s2.acct row.feedTank).atReserve = true then some row.reserveCap else none
          commandLoss := if s2.intake.prop.loss = .lost then some row.idle else none }
      let s3 := (loaded.setLane l (LaneRec.reset 0)).evaluateLane l
      Served (.loadLaneRow t) source m s s2
        { s3 with lanes := { s3.lanes with ceils := s3.lanes.ceils.set l kept } } [] [] (QueuesNothing s2))
  ∧ (∀ (t source : Nat) (m : List Byte) (s s2 : State),
      (Completes t .loadLane source m s s2 →
          (4 ≤ u8 m 2 ∨ laneRowOf s2.node m = none
            ∨ ∃ row j x, laneRowOf s2.node m = some row ∧ j.val ≠ u8 m 2 ∧ s2.lanes.rows.get j = some x
              ∧ (x.node = row.node ∨ x.channel = row.channel
                ∨ (row.home ≠ none ∧ x.home = row.home ∧ x.idle ≠ row.idle))) →
          Refused (.loadLaneRow t) source m s s2 .range)
      ∧ (∀ (l : Fin 4) (row : LaneRow), Completes t .loadLane source m s s2 → u8 m 2 = l.val →
          laneRowOf s2.node m = some row →
          (∀ j x, j ≠ l → s2.lanes.rows.get j = some x → x.node ≠ row.node ∧ x.channel ≠ row.channel
            ∧ (row.home ≠ none → x.home = row.home → x.idle = row.idle)) →
          (s2.lane l).state ≠ .unsynced → (s2.lane l).state ≠ .stopped → (s2.lane l).state ≠ .fault →
          Refused (.loadLaneRow t) source m s s2 .badState)
      ∧ (Completes t .loadCoupling source m s s2 →
          (32 ≤ u8 m 2 ∨ coupRowOf s2.node m = none
            ∨ ∃ row j x, coupRowOf s2.node m = some row ∧ j.val ≠ u8 m 2 ∧ s2.couplings.rows.get j = some x
              ∧ x.node = row.node) →
          Refused (.loadCouplingRow t) source m s s2 .range)
      ∧ (∀ (c : Fin 32) (row : CoupRow), Completes t .loadCoupling source m s s2 → u8 m 2 = c.val →
          coupRowOf s2.node m = some row →
          (∀ j x, j ≠ c → s2.couplings.rows.get j = some x → x.node ≠ row.node) →
          (s2.coup c).state ≠ .unsynced → (s2.coup c).state ≠ .released → (s2.coup c).state ≠ .fault →
          Refused (.loadCouplingRow t) source m s s2 .badState))
  ∧ (∀ (t source : Nat) (m : List Byte) (s s2 : State) (c : Fin 32) (row : CoupRow),
      Completes t .loadCoupling source m s s2 → u8 m 2 = c.val → coupRowOf s2.node m = some row →
      (∀ j x, j ≠ c → s2.couplings.rows.get j = some x → x.node ≠ row.node) →
      ((s2.coup c).state = .unsynced ∨ (s2.coup c).state = .released ∨ (s2.coup c).state = .fault) →
      Answers (exec (.loadCouplingRow t) s) fun u =>
        u.now = s2.now
        ∧ u.lessDrive = (({ s2 with couplings := { s2.couplings with
            rows := s2.couplings.rows.set c (some row) } }.setCoup c (CoupRec.reset 0)).setArming none).lessDrive
        ∧ FlagsKept s2 u [.assistUncoupled, .actuatorUnreachable]
        ∧ Replies s2 u source [m.getD 0 0, 0#8]
        ∧ (∀ l r, s2.lanes.rows.get l = some r →
            u.lanes.ceils.get l = { s2.lanes.ceils.get l with
              tension := if u.boatDerate r.boat < 1000 then some (u.boatDerate r.boat) else none })
        ∧ (∀ a r, s2.steering.rows.get a = some r → c ∈ r.path → (s2.act a).state = .tracking →
            (u.act a).state = .unreachable ∧ (u.act a).commanded = 0)
        ∧ (∀ a r, s2.steering.rows.get a = some r → c ∉ r.path → (u.act a).state = (s2.act a).state))
  ∧ (∀ (own : Nat) (m : List Byte) (r : LaneRow), laneRowOf own m = some r ↔
      r.node = u8 m 3 ∧ NodeOk own r.node ∧ (u8 m 4 = 1 ∧ r.port = .M ∨ u8 m 4 = 2 ∧ r.port = .T)
      ∧ (u8 m 5 = 0 ∧ r.boat = .main ∨ u8 m 5 = 1 ∧ r.boat = .assist)
      ∧ r.feedTank.val = u8 m 6 ∧ r.channel.val = u8 m 7
      ∧ (r.home = none ∧ u8 m 8 = 255 ∨ ∃ g, r.home = some g ∧ g.val = u8 m 8)
      ∧ r.idle = u16 m 9 ∧ 3000 ≤ r.idle ∧ r.idle ≤ 12000
      ∧ r.maxAhead = u16 m 11 ∧ r.idle ≤ r.maxAhead ∧ r.maxAhead ≤ 30000
      ∧ r.maxAstern = u16 m 13 ∧ r.idle ≤ r.maxAstern ∧ r.maxAstern ≤ 30000
      ∧ r.reserveCap = u16 m 15 ∧ r.idle ≤ r.reserveCap ∧ r.reserveCap ≤ r.maxAhead
      ∧ r.rampUp = u16 m 17 ∧ 1 ≤ r.rampUp ∧ r.rampUp ≤ 500
      ∧ r.rampDown = u16 m 19 ∧ 1 ≤ r.rampDown ∧ r.rampDown ≤ 500
      ∧ r.crashRampDown = u16 m 21 ∧ 1 ≤ r.crashRampDown ∧ r.crashRampDown ≤ 500
      ∧ r.clutchTimeout = u16 m 23 ∧ 500 ≤ r.clutchTimeout ∧ r.clutchTimeout ≤ 10000
      ∧ r.neutralTimeout = u16 m 25 ∧ 500 ≤ r.neutralTimeout ∧ r.neutralTimeout ≤ 10000
      ∧ r.reversalDwell = u16 m 27 ∧ 1000 ≤ r.reversalDwell ∧ r.reversalDwell ≤ 30000
      ∧ r.crashDwell = u16 m 29 ∧ 500 ≤ r.crashDwell ∧ r.crashDwell ≤ r.reversalDwell
      ∧ r.crashSpeed = u16 m 31 ∧ r.idle ≤ r.crashSpeed ∧ r.crashSpeed ≤ r.maxAstern
      ∧ r.refresh = u16 m 33 ∧ 50 ≤ r.refresh ∧ r.refresh ≤ 1000
      ∧ r.statusTimeout = u16 m 35 ∧ 200 ≤ r.statusTimeout ∧ r.statusTimeout ≤ 5000)
  ∧ (∀ (own : Nat) (m : List Byte) (r : CoupRow), coupRowOf own m = some r ↔
      r.node = u8 m 3 ∧ NodeOk own r.node ∧ (u8 m 4 = 1 ∧ r.port = .M ∨ u8 m 4 = 2 ∧ r.port = .T)
      ∧ (u8 m 5 = 0 ∧ r.kind = .face ∨ u8 m 5 = 1 ∧ r.kind = .tier ∨ u8 m 5 = 2 ∧ r.kind = .breast
        ∨ u8 m 5 = 3 ∧ r.kind = .assist)
      ∧ (u8 m 6 = 0 ∧ r.bears = some .main ∨ u8 m 6 = 1 ∧ r.bears = some .assist ∨ u8 m 6 = 2 ∧ r.bears = none)
      ∧ (r.kind = .face → r.bears = some .main) ∧ (r.kind = .assist → r.bears = some .assist)
      ∧ r.makeUpTarget = u16 m 7 ∧ 1 ≤ r.makeUpTarget ∧ r.makeUpTarget ≤ 4000
      ∧ r.makeUpBand = u16 m 9 ∧ r.makeUpBand ≤ 1000
      ∧ r.soft = u16 m 11 ∧ r.hard = u16 m 13 ∧ r.soft < r.hard ∧ r.hard ≤ 4000
      ∧ r.floor = u16 m 15 ∧ r.floor ≤ 1000
      ∧ r.slackLimit = u16 m 17 ∧ r.slackLimit ≤ 3999 ∧ r.slackLimit + r.makeUpBand < r.makeUpTarget
      ∧ r.slackTime = u16 m 19 ∧ 500 ≤ r.slackTime ∧ r.slackTime ≤ 30000
      ∧ r.makeUpTimeout = u32 m 21 ∧ 1000 ≤ r.makeUpTimeout ∧ r.makeUpTimeout ≤ 120000
      ∧ r.easeTimeout = u32 m 25 ∧ 1000 ≤ r.easeTimeout ∧ r.easeTimeout ≤ 120000
      ∧ r.releaseTimeout = u16 m 29 ∧ 1000 ≤ r.releaseTimeout ∧ r.releaseTimeout ≤ 60000
      ∧ r.statusTimeout = u16 m 31 ∧ 200 ≤ r.statusTimeout ∧ r.statusTimeout ≤ 5000)

/-- R128, R141: a valid tank row replaces the definition of a tank that no transfer has for an end and keeps its
account; the reserve of a tank that was FEED and is so no longer is left behind, and that of any other is evaluated
with the flag as it stood. R130, R156, R131: OPEN_TANK opens a new account period at the content given and decides the
reserve afresh; ADJUST_TANK sets the content, adds the difference to the adjustment total and evaluates the reserve. A
reserve that is set raises TANK_RESERVE and posts FUEL_RESERVE at its reserve cap on every lane the tank feeds; one
that is cleared removes the entry. Nothing of any other tank changes, and where the reserve stands as before nothing
else does. Removing the entries, as a FEED tank opened at or above its reserve does, changes nothing else either where
no riding lane and no group point stands above its ceiling, for R66 and R89 then have nothing to cut. The refusals:
RANGE for an index above 15, for a row that is no row, for a content no loaded tank of that index holds, and in
ADJUST_TANK for an undefined tank; TRANSFER_ACTIVE for an end of the transfer in either slot. Section 11.6 and 8.1:
which bytes of the request give which field of a tank row, and the range that each field must keep. The model's
choices: an account sum outside 64 bits is a free value (assumption log 8), and RANGE is tested before TRANSFER_ACTIVE
(assumption log 53). -/
def Obligations.TankRowsAndContentsAreSet : Prop :=
  (∀ (t source : Nat) (m : List Byte) (s s2 : State) (k : Fin 16) (row : TankRow),
      Completes t .loadTank source m s s2 → u8 m 2 = k.val → tankRowOf m = some row → s2.tankBusy k = false →
      let loaded := { s2 with fuel := { s2.fuel with tanks := s2.fuel.tanks.set k (some row) } }
      let old := s2.acct k
      let wasFeed := ∃ r, s2.fuel.tanks.get k = some r ∧ r.kind = .feed
      let sets := row.kind = .feed ∧ old.defined = true ∧ old.atReserve = false
        ∧ old.content < ((row.reserve * 1000000 : Nat) : Int)
      let clears := (wasFeed ∧ row.kind ≠ .feed)
        ∨ (row.kind = .feed ∧ old.defined = true ∧ old.atReserve = true
          ∧ (((row.reserve + row.hysteresis) * 1000000 : Nat) : Int) ≤ old.content)
      Answers (exec (.loadTankRow t) s) fun u =>
        u.now = s2.now ∧ Replies s2 u source [m.getD 0 0, 0#8]
        ∧ (sets → ReserveSet s2 (loaded.putAcct k { old with atReserve := true }) u k
            ∧ Raised s2 u .tankReserve (some k.val))
        ∧ (clears → ReserveCleared s2 (loaded.putAcct k { old with atReserve := false }) u k)
        ∧ (¬ sets → ¬ clears → u.quiet = (loaded.setArming none).quiet ∧ FlagsKept s2 u []))
  ∧ (∀ (t source : Nat) (m : List Byte) (s s2 : State) (k : Fin 16) (row : TankRow),
      u8 m 1 = k.val → s2.fuel.tanks.get k = some row → u32 m 2 ≤ row.capacity → s2.tankBusy k = false →
      let mg : Int := ((u32 m 2 * 1000000 : Nat) : Int)
      let old := s2.acct k
      let opened : TankAcct :=
        { old with defined := true, content := mg, opening := mg, drawn := 0, inTotal := 0, outTotal := 0, adjustment := 0 }
      let adjusted : TankAcct := { old with content := mg, adjustment := account (old.adjustment + (mg - old.content)) }
      (Completes t .openTank source m s s2 →
        Answers (exec (.openTank t) s) fun u =>
          u.now = s2.now ∧ Replies s2 u source [m.getD 0 0, 0#8]
          ∧ (row.kind = .feed → mg < ((row.reserve * 1000000 : Nat) : Int) →
              ReserveSet s2 (s2.putAcct k { opened with atReserve := true }) u k ∧ Raised s2 u .tankReserve (some k.val))
          ∧ (row.kind = .feed → ((row.reserve * 1000000 : Nat) : Int) ≤ mg →
              ReserveCleared s2 (s2.putAcct k { opened with atReserve := false }) u k)
          ∧ (row.kind ≠ .feed → u.quiet = ((s2.putAcct k opened).setArming none).quiet ∧ FlagsKept s2 u []))
      ∧ (Completes t .adjustTank source m s s2 → old.defined = true →
          Answers (exec (.adjustTank t) s) fun u =>
            u.now = s2.now ∧ Replies s2 u source [m.getD 0 0, 0#8]
            ∧ (row.kind ≠ .feed ∨ (old.atReserve = false ∧ ((row.reserve * 1000000 : Nat) : Int) ≤ mg)
                ∨ (old.atReserve = true ∧ mg < (((row.reserve + row.hysteresis) * 1000000 : Nat) : Int)) →
                u.quiet = ((s2.putAcct k adjusted).setArming none).quiet ∧ FlagsKept s2 u [])
            ∧ (row.kind = .feed → old.atReserve = false → mg < ((row.reserve * 1000000 : Nat) : Int) →
                ReserveSet s2 (s2.putAcct k { adjusted with atReserve := true }) u k
                ∧ Raised s2 u .tankReserve (some k.val))
            ∧ (row.kind = .feed → old.atReserve = true →
                (((row.reserve + row.hysteresis) * 1000000 : Nat) : Int) ≤ mg →
                ReserveCleared s2 (s2.putAcct k { adjusted with atReserve := false }) u k)))
  ∧ (∀ (t source : Nat) (m : List Byte) (s s2 : State),
      let ends : Fin 16 → Prop := fun k =>
        ∃ x, (s2.transfers.active = some x ∨ s2.transfers.waiting = some x) ∧ (x.source = k ∨ x.dest = k)
      let holds : Fin 16 → Prop := fun k => ∃ row, s2.fuel.tanks.get k = some row ∧ u32 m 2 ≤ row.capacity
      (Completes t .loadTank source m s s2 → (16 ≤ u8 m 2 ∨ tankRowOf m = none) →
          Refused (.loadTankRow t) source m s s2 .range)
      ∧ (∀ k : Fin 16, Completes t .loadTank source m s s2 → u8 m 2 = k.val → tankRowOf m ≠ none → ends k →
          Refused (.loadTankRow t) source m s s2 .transferActive)
      ∧ (Completes t .openTank source m s s2 → (16 ≤ u8 m 1 ∨ ∃ k : Fin 16, u8 m 1 = k.val ∧ ¬ holds k) →
          Refused (.openTank t) source m s s2 .range)
      ∧ (∀ k : Fin 16, Completes t .openTank source m s s2 → u8 m 1 = k.val → holds k → ends k →
          Refused (.openTank t) source m s s2 .transferActive)
      ∧ (Completes t .adjustTank source m s s2 →
          (16 ≤ u8 m 1 ∨ ∃ k : Fin 16, u8 m 1 = k.val ∧ ((s2.acct k).defined = false ∨ ¬ holds k)) →
          Refused (.adjustTank t) source m s s2 .range)
      ∧ (∀ k : Fin 16, Completes t .adjustTank source m s s2 → u8 m 1 = k.val → (s2.acct k).defined = true → holds k →
          ends k → Refused (.adjustTank t) source m s s2 .transferActive))
  ∧ (∀ (m : List Byte) (r : TankRow), tankRowOf m = some r ↔
      (u8 m 3 = 0 ∧ r.kind = .storage ∨ u8 m 3 = 1 ∧ r.kind = .feed ∨ u8 m 3 = 2 ∧ r.kind = .barge)
      ∧ r.capacity = u32 m 4 ∧ 1 ≤ r.capacity ∧ r.capacity ≤ 500000
      ∧ r.reserve = u32 m 8 ∧ r.reserve ≤ r.capacity ∧ r.hysteresis = u32 m 12 ∧ r.hysteresis ≤ r.capacity
      ∧ r.fullMargin = u32 m 16 ∧ r.fullMargin ≤ r.capacity
      ∧ r.density = u16 m 20 ∧ 6000 ≤ r.density ∧ r.density ≤ 10000 ∧ r.alpha = u16 m 22 ∧ r.alpha ≤ 2000
      ∧ (if r.kind = .barge then ∃ c, r.hose = some c ∧ c.val = u8 m 24 else r.hose = none ∧ u8 m 24 = 255))

/-- R20, R32, R49, R81, R93, R98, R132: CLEAR_TABLE empties the table it names, with the records that go with it. The
lane table takes the ceiling records with it and has every actuator evaluated; the bank must be the standby bank.
R129, R109: clearing the tank table undefines every tank, empties the sounding list and removes FUEL_RESERVE from
every loaded lane; clearing the coupling table puts every coupling at its reset values and removes TENSION from every
loaded lane. Beyond that only lanes, groups and actuators can change. A clear is refused ROW_IN_USE while a job has a
station in command and for the active bank; BAD_STATE while a loaded lane is not UNSYNCED, STOPPED or FAULT, while a
group has a member, while an actuator is TRACKING, and while a loaded coupling is not UNSYNCED, RELEASED or FAULT;
TRANSFER_ACTIVE, of tanks and of meter channels, while a transfer slot is occupied. -/
def Obligations.ClearTableEmptiesTheTable : Prop :=
  (∀ (t source : Nat) (m : List Byte) (s s2 : State),
      (Completes t .clearRoutes source m s s2 →
        Served (.clearRouteTable t) source m s s2 (s2.setRoutes []) [] [] (QueuesNothing s2))
      ∧ (Completes t .clearStations source m s s2 → s2.intake.prop.station = none → s2.intake.steer.station = none →
          Served (.clearStationTable t) source m s s2
            { s2 with intake := { s2.intake with stations := Tab.fill 4 none, refusals := Tab.fill 4 0 } } [] []
            (QueuesNothing s2))
      ∧ (Completes t .clearStations source m s s2 → (s2.intake.prop.station ≠ none ∨ s2.intake.steer.station ≠ none) →
          Refused (.clearStationTable t) source m s s2 .rowInUse)
      ∧ (Completes t .clearLanes source m s s2 →
          (∀ l, s2.lanes.rows.get l ≠ none →
            (s2.lane l).state = .unsynced ∨ (s2.lane l).state = .stopped ∨ (s2.lane l).state = .fault) →
          Served (.clearLaneTable t) source m s s2
            ({ s2 with lanes := { rows := Tab.fill 4 none, recs := Tab.fill 4 (LaneRec.reset 0),
                                  ceils := Tab.fill 4 Ceilings.empty } }.evaluateAll) [] [] (QueuesNothing s2))
      ∧ (∀ l, Completes t .clearLanes source m s s2 → s2.lanes.rows.get l ≠ none → (s2.lane l).state ≠ .unsynced →
          (s2.lane l).state ≠ .stopped → (s2.lane l).state ≠ .fault →
          Refused (.clearLaneTable t) source m s s2 .badState)
      ∧ (Completes t .clearGroups source m s s2 → s2.members 0 = [] → s2.members 1 = [] →
          Served (.clearGroupTable t) source m s s2
            { s2 with groups := { s2.groups with rows := Tab.fill 2 none } } [] [] (QueuesNothing s2))
      ∧ (∀ g, Completes t .clearGroups source m s s2 → s2.members g ≠ [] →
          Refused (.clearGroupTable t) source m s s2 .badState)
      ∧ (Completes t .clearActuators source m s s2 → (∀ a, (s2.act a).state ≠ .tracking) →
          Served (.clearActuatorTable t) source m s s2
            { s2 with steering := { s2.steering with rows := Tab.fill 8 none, recs := Tab.fill 8 ActRec.reset } } [] []
            (QueuesNothing s2))
      ∧ (∀ a, Completes t .clearActuators source m s s2 → (s2.act a).state = .tracking →
          Refused (.clearActuatorTable t) source m s s2 .badState)
      ∧ (∀ b : Bank, Completes t .clearBank source m s s2 → u8 m 1 = (match b with | .A => 5 | .B => 6) →
          (b ≠ s2.steering.active →
            Served (.clearBank t) source m s s2
              { s2 with steering := (match b with
                  | .A => { s2.steering with bankA := Tab.fill 8 none, complete := false }
                  | .B => { s2.steering with bankB := Tab.fill 8 none, complete := false }) } [] [] (QueuesNothing s2))
          ∧ (b = s2.steering.active → Refused (.clearBank t) source m s s2 .rowInUse))
      ∧ (Completes t .clearChannels source m s s2 → s2.transfers.active = none → s2.transfers.waiting = none →
          Served (.clearMeterChannelTable t) source m s s2
            { s2 with fuel := { s2.fuel with channels := Tab.fill 8 none, recs := Tab.fill 8 ChanRec.reset } } [] []
            (QueuesNothing s2))
      ∧ ((s2.transfers.active ≠ none ∨ s2.transfers.waiting ≠ none) →
          (Completes t .clearChannels source m s s2 →
            Refused (.clearMeterChannelTable t) source m s s2 .transferActive)
          ∧ (Completes t .clearTanks source m s s2 → Refused (.clearTankTable t) source m s s2 .transferActive))
      ∧ (∀ c, Completes t .clearCouplings source m s s2 → s2.couplings.rows.get c ≠ none →
          (s2.coup c).state ≠ .unsynced → (s2.coup c).state ≠ .released → (s2.coup c).state ≠ .fault →
          Refused (.clearCouplingTable t) source m s s2 .badState))
  ∧ (∀ (t source : Nat) (m : List Byte) (s s2 : State),
      (Completes t .clearTanks source m s s2 → s2.transfers.active = none → s2.transfers.waiting = none →
        Answers (exec (.clearTankTable t) s) fun u =>
          u.now = s2.now ∧ FlagsKept s2 u [] ∧ Replies s2 u source [m.getD 0 0, 0#8]
          ∧ u.lessDrive = ({ s2 with
              fuel := { s2.fuel with tanks := Tab.fill 16 none, accts := Tab.fill 16 TankAcct.reset }
              transfers := { s2.transfers with soundings := Tab.fill 16 none } }.setArming none).lessDrive
          ∧ ∀ l r, s2.lanes.rows.get l = some r →
              u.lanes.ceils.get l = { s2.lanes.ceils.get l with fuelReserve := none })
      ∧ (Completes t .clearCouplings source m s s2 →
          (∀ c, s2.couplings.rows.get c ≠ none →
            (s2.coup c).state = .unsynced ∨ (s2.coup c).state = .released ∨ (s2.coup c).state = .fault) →
          Answers (exec (.clearCouplingTable t) s) fun u =>
            u.now = s2.now ∧ FlagsKept s2 u [.actuatorUnreachable] ∧ Replies s2 u source [m.getD 0 0, 0#8]
            ∧ u.lessDrive = ({ s2 with couplings := { s2.couplings with
                rows := Tab.fill 32 none, recs := Tab.fill 32 (CoupRec.reset 0) } }.setArming none).lessDrive
            ∧ (∀ l r, s2.lanes.rows.get l = some r →
                u.lanes.ceils.get l = { s2.lanes.ceils.get l with tension := none })
            ∧ ∀ a r, s2.steering.rows.get a = some r → r.path ≠ [] → (s2.act a).state = .tracking →
                (u.act a).state = .unreachable))

/-- R96, R97: CLOSE_BANK sets the standby bank's complete flag exactly when its row count is the n given and it covers
every loaded actuator, and clears it and answers INCOMPLETE_BANK otherwise. SWAP_BANK of a complete and covering
standby bank exchanges the banks, clears the flag, evaluates every actuator and raises BANK_SWAPPED with the bank made
active. The model's choice: a count above 8 equals no number of places and is answered INCOMPLETE_BANK too (assumption
log 37). -/
def Obligations.BanksCloseAndSwap : Prop :=
  ∀ (t source : Nat) (m : List Byte) (s s2 : State),
    let standby := match s2.steering.active with | .A => s2.steering.bankB | .B => s2.steering.bankA
    let count := (standby.rows.filter Option.isSome).length
    let covers := ∀ a, s2.steering.rows.get a ≠ none → standby.get a ≠ none
    (Completes t .closeBank source m s s2 → count = u8 m 1 → covers →
      Served (.closeBank t) source m s s2 { s2 with steering := { s2.steering with complete := true } } [] []
        (QueuesNothing s2))
    ∧ (Completes t .closeBank source m s s2 → ¬ (count = u8 m 1 ∧ covers) →
        Becomes (.closeBank t) s s2 ({ s2 with steering := { s2.steering with complete := false } }.setArming none) []
          fun u => QueuesNothing s2 u ∧ Replies s2 u source [m.getD 0 0, 8#8])
    ∧ (Completes t .swapBank source m s s2 → s2.steering.complete = true → covers →
        let b : Bank := match s2.steering.active with | .A => .B | .B => .A
        Served (.swapBank t) source m s s2
          ({ s2 with steering := { s2.steering with active := b, complete := false } }.evaluateAll) [] [.bankSwapped]
          fun u => QueuesNothing s2 u ∧ Raised s2 u .bankSwapped (some (match b with | .A => 0 | .B => 1)))
    ∧ (Completes t .swapBank source m s s2 → ¬ (s2.steering.complete = true ∧ covers) →
        Refused (.swapBank t) source m s s2 .incompleteBank)

/-- R161, R94, R50, R82, R126: ENGAGE takes PASS_THROUGH and WAKE takes LAID_UP to COORDINATING, starting the status timer
of every loaded actuator; LAY_UP takes COORDINATING, with no active lane, to LAID_UP, and DISENGAGE takes either to
PASS_THROUGH with no transfer in a slot. Leaving COORDINATING puts every lane and actuator in UNSYNCED, keeping what each
last reported, and every group at its reset values; DISENGAGE also abandons each coupling's operation. No order is queued.
R161: a mode request from a mode it does not leave is refused, with the result its row names. -/
def Obligations.ModeRequestsMoveBetweenTheModes : Prop :=
  (∀ (t source : Nat) (m : List Byte) (s s2 : State),
      let started : Tab 8 ActRec → Prop := fun recs => ∀ a, recs.get a = (match s2.steering.rows.get a with
        | some row => { s2.act a with statusTimer := some (s2.now + row.statusTimeout) }
        | none => s2.act a)
      let idled : State → Prop := fun u =>
        (∀ l, (u.lane l).core = { LaneRec.reset 0 with speed := (s2.lane l).speed, alarm := (s2.lane l).alarm })
        ∧ (∀ g, u.groups.recs.get g = GroupRec.reset)
        ∧ ∀ a, u.act a = { ActRec.reset with position := (s2.act a).position, alarm := (s2.act a).alarm }
      (Completes t .engage source m s s2 → s2.mgmt.mode = .passThrough → s2.switch.routes ≠ [] →
          (∃ l, s2.lanes.rows.get l ≠ none) →
        ∃ recs, started recs ∧ Served (.engage t) source m s s2
          { s2 with mgmt := { s2.mgmt with mode := .coordinating }, steering := { s2.steering with recs := recs } } [] []
          (QueuesNothing s2))
      ∧ (Completes t .wake source m s s2 → s2.mgmt.mode = .laidUp →
          ∃ recs, started recs ∧ Served (.wake t) source m s s2
            { s2 with mgmt := { s2.mgmt with mode := .coordinating }, steering := { s2.steering with recs := recs } } [] []
            (QueuesNothing s2))
      ∧ (Completes t .layUp source m s s2 → s2.mgmt.mode = .coordinating →
          (∀ l, (s2.lane l).state.active = false) →
          Answers (exec (.layUp t) s) fun u =>
            u.now = s2.now ∧ FlagsKept s2 u [] ∧ QueuesNothing s2 u ∧ Replies s2 u source [m.getD 0 0, 0#8]
            ∧ u.lessDrive = ({ s2 with mgmt := { s2.mgmt with mode := .laidUp } }.setArming none).lessDrive
            ∧ u.lanes.ceils = s2.lanes.ceils ∧ idled u)
      ∧ (Completes t .disengage source m s s2 → s2.mgmt.mode ≠ .passThrough → s2.transfers.active = none →
          s2.transfers.waiting = none →
          Answers (exec (.disengage t) s) fun u =>
            u.now = s2.now ∧ FlagsKept s2 u [] ∧ QueuesNothing s2 u ∧ Replies s2 u source [m.getD 0 0, 0#8]
            ∧ u.mgmt.mode = .passThrough ∧ u.lanes.ceils = s2.lanes.ceils ∧ idled u
            ∧ (∀ c, (u.coup c).core = (if (s2.coup c).state = .makingUp ∨ (s2.coup c).state = .easing
                  ∨ (s2.coup c).state = .releasing then
                { (s2.coup c).core with state := .unsynced, releaser := none, opTimer := none, repeatTimer := none,
                                        statusTimer := none }
              else (s2.coup c).core))
            ∧ u.fuel = s2.fuel ∧ u.transfers = s2.transfers ∧ u.switch.routes = s2.switch.routes))
  ∧ (∀ (t source : Nat) (m : List Byte) (s s2 : State),
      (Completes t .engage source m s s2 → s2.mgmt.mode = .coordinating → Refused (.engage t) source m s s2 .badState)
      ∧ (Completes t .engage source m s s2 → s2.mgmt.mode = .passThrough →
          (s2.switch.routes = [] ∨ ∀ l, s2.lanes.rows.get l = none) → Refused (.engage t) source m s s2 .notConfigured)
      ∧ (Completes t .wake source m s s2 → s2.mgmt.mode ≠ .laidUp → Refused (.wake t) source m s s2 .badState)
      ∧ (Completes t .layUp source m s s2 → (s2.mgmt.mode ≠ .coordinating ∨ ∃ l, (s2.lane l).state.active = true) →
          Refused (.layUp t) source m s s2 .badState)
      ∧ (Completes t .disengage source m s s2 → (s2.transfers.active ≠ none ∨ s2.transfers.waiting ≠ none) →
          Refused (.disengage t) source m s s2 .transferActive)
      ∧ (Completes t .disengage source m s s2 → s2.transfers.active = none → s2.transfers.waiting = none →
          s2.mgmt.mode = .passThrough → Refused (.disengage t) source m s s2 .badState))

/-- R77, R76, R66: SET_CAP posts or removes the cap of a loaded lane. A lane that does not ride, or whose setpoint the
new effective ceiling does not cut, keeps its record; a riding lane out of step whose setpoint stands above the
ceiling is cut to it at once and ordered the cut setpoint. R62: a lane in RAMPDOWN cut to its idle speed goes to
DECLUTCH with its neutral order. R89: for a lane in step, the point of its group is cut to the least effective ceiling
of the riding members where it stands above that, and every riding member takes it and is ordered it; a point at or
below it stays. R77: the request is refused RANGE for an index above 3, for a lane whose row is empty, and for a speed
other than 0 outside idle speed to 30,000. -/
def Obligations.TheCapCutsTheSetpointAtOnce : Prop :=
  (∀ (t source : Nat) (m : List Byte) (s s2 : State) (l : Fin 4) (row : LaneRow) (cap : Option Nat),
    Completes t .setCap source m s s2 → u8 m 1 = l.val → s2.lanes.rows.get l = some row →
    ((cap = none ∧ u16 m 2 = 0) ∨ (cap = some (u16 m 2) ∧ u16 m 2 ≠ 0 ∧ row.idle ≤ u16 m 2 ∧ u16 m 2 ≤ 30000)) →
    let c : Ceilings := { s2.lanes.ceils.get l with mgmtCap := cap }
    let w := { s2 with lanes := { s2.lanes with ceils := s2.lanes.ceils.set l c } }
    let r := s2.lane l
    let top := ceilingFor row c (if r.gear = .astern then .astern else .ahead)
    let rides := r.state = .ahead ∨ r.state = .astern ∨ r.state = .rampdown
    let released : LaneRow → LaneRec → LaneRec := fun row x => { x with
      state := .declutch, gear := .neutral, setpoint := row.idle, kickMark := none, kickTimer := none, clutchTimer := none,
      rampTimer := none, neutralTimer := some (s2.now + row.neutralTimeout), refreshTimer := some (s2.now + row.refresh) }
    (¬ rides → Served (.setCap t) source m s s2 w [] [] (QueuesNothing s2))
    ∧ (rides → r.inStep = false → r.setpoint ≤ top → Served (.setCap t) source m s s2 w [] [] (QueuesNothing s2))
    ∧ (rides → r.inStep = false → top < r.setpoint → ¬ (r.state = .rampdown ∧ top = row.idle) →
        s2.mgmt.mode = .coordinating →
        Served (.setCap t) source m s s2
          (w.setLane l { r with setpoint := top, refreshTimer := some (s2.now + row.refresh) }) [] []
          fun u => Queues s2 u row.port (s2.governorFrame l row r.gear top))
    ∧ (r.state = .rampdown → r.inStep = false → top = row.idle → top < r.setpoint → s2.mgmt.mode = .coordinating →
        Served (.setCap t) source m s s2 (w.laneBecomes l (released row r)) [] []
          fun u => Queues s2 u row.port (s2.governorFrame l row .neutral row.idle))
    ∧ (∀ g least, rides → r.inStep = true → row.home = some g → w.leastCeiling g = some least →
        (s2.groups.recs.get g).point ≤ least → r.setpoint ≤ top →
        Served (.setCap t) source m s s2 w [] [] (QueuesNothing s2))
    ∧ (∀ g least, rides → r.inStep = true → row.home = some g → w.leastCeiling g = some least →
        least < (s2.groups.recs.get g).point →
        Answers (exec (.setCap t) s) fun u =>
          u.now = s2.now ∧ FlagsKept s2 u [] ∧ Replies s2 u source [m.getD 0 0, 0#8]
          ∧ u.lessDrive = (s2.setArming none).lessDrive ∧ u.lanes.ceils = w.lanes.ceils
          ∧ u.groups = { s2.groups with
              recs := s2.groups.recs.set g { s2.groups.recs.get g with point := least } }
          ∧ (∀ i, i ∉ s2.riders g → (u.lane i).core = (s2.lane i).core)
          ∧ (∀ i row', i ∈ s2.riders g → s2.lanes.rows.get i = some row' →
              let x := s2.lane i
              let new := if x.setpoint = least then x
                else if x.state = .rampdown ∧ least = row'.idle then released row' x
                else { x with setpoint := least, refreshTimer := some (s2.now + row'.refresh) }
              (u.lane i).core = new.core
              ∧ (x.setpoint ≠ least → s2.mgmt.mode = .coordinating → row'.port ≠ .B →
                  (s2.port row'.port).egress.length ≤ 16 →
                  s2.governorFrame i row' new.gear least ∈ (u.port row'.port).egress))))
  ∧ ∀ (t source : Nat) (m : List Byte) (s s2 : State), Completes t .setCap source m s s2 →
      (4 ≤ u8 m 1 ∨ (∃ l : Fin 4, u8 m 1 = l.val ∧ s2.lanes.rows.get l = none)
        ∨ (∃ (l : Fin 4) (row : LaneRow), u8 m 1 = l.val ∧ s2.lanes.rows.get l = some row ∧ u16 m 2 ≠ 0
            ∧ (u16 m 2 < row.idle ∨ 30000 < u16 m 2))) →
      Refused (.setCap t) source m s s2 .range

/-- R154, R155: SOUNDING lists a content for a defined tank. RECONCILE walks the list in ascending tank index, passing
over the ends of a transfer in a metered state: an entry within tolerance sets its tank's content and leaves the list; the
first one outside it halts the walk, is named by RECONCILE_HALTED, and stands with every later entry. -/
def Obligations.ReconciliationHaltsAtTheFirstGap : Prop :=
  ∀ (t source : Nat) (m : List Byte) (s s2 : State),
    (∀ (k : Fin 16) (row : TankRow), Completes t .sounding source m s s2 → u8 m 1 = k.val →
      (s2.acct k).defined = true → s2.fuel.tanks.get k = some row → u32 m 2 ≤ row.capacity →
      Served (.sounding t) source m s s2
        { s2 with transfers := { s2.transfers with soundings := s2.transfers.soundings.set k (some (u32 m 2)) } } [] []
        (QueuesNothing s2))
    ∧ (Completes t .reconcile source m s s2 → u32 m 1 ≤ 500000 →
        let skipped : Fin 16 → Prop := fun k => ∃ x, s2.transfers.active = some x ∧ (x.source = k ∨ x.dest = k)
          ∧ (x.state = .starting ∨ x.state = .running ∨ x.state = .suspending ∨ x.state = .stopping)
        let listed : Fin 16 → Nat → Prop := fun k kg => s2.transfers.soundings.get k = some kg ∧ ¬ skipped k
        let gap : Fin 16 → Nat → Int := fun k kg => ((kg * 1000000 : Nat) : Int) - (s2.acct k).content
        let close : Fin 16 → Nat → Prop := fun k kg => (gap k kg).natAbs ≤ u32 m 1 * 1000000
        Answers (exec (.reconcile t) s) fun u =>
          u.now = s2.now ∧ FlagsKept s2 u [.tankReserve, .reconcileHalted]
          ∧ (∀ k kg, listed k kg → close k kg → (∀ j x, j < k → listed j x → close j x) →
              (u.acct k).content = ((kg * 1000000 : Nat) : Int)
              ∧ (u.acct k).adjustment = account ((s2.acct k).adjustment + gap k kg)
              ∧ u.transfers.soundings.get k = none)
          ∧ (∀ k kg, listed k kg → ¬ close k kg → (∀ j x, j < k → listed j x → close j x) →
              Raised s2 u .reconcileHalted (some k.val)
              ∧ ∀ j, k ≤ j → u.acct j = s2.acct j
                ∧ u.transfers.soundings.get j = s2.transfers.soundings.get j)
          ∧ ((∀ k kg, listed k kg → close k kg) → u.flag .reconcileHalted = s2.flag .reconcileHalted)
          ∧ (∀ j, (∀ kg, ¬ listed j kg) → u.acct j = s2.acct j
              ∧ u.transfers.soundings.get j = s2.transfers.soundings.get j))

/-- R144, R146, R148: TRANSFER is tested for BAD_STATE in PASS_THROUGH, RANGE, SLOT_FULL, INSUFFICIENT, NO_ROOM and
HOSE_NOT_FAST in that order; an accepted one takes the next number, which goes from 255 to 1. With the ACTIVE slot
empty it is started: STARTING, 10,000 ms to start, one PUMP_ORDER START queued; with the slot occupied it waits in the
PENDING slot. An index above 15, a channel above 7 and a port other than M and T are out of RANGE. The model's choice:
the DONE reply carries the number as one byte (assumption log 38). -/
def Obligations.TransfersAreAdmittedOrRefused : Prop :=
  ∀ (t source : Nat) (m : List Byte) (s s2 : State), Completes t .transfer source m s s2 →
    (s2.mgmt.mode = .passThrough → Refused (.transfer t) source m s s2 .badState)
    ∧ (s2.mgmt.mode ≠ .passThrough → (15 < u8 m 1 ∨ 15 < u8 m 2 ∨ 7 < u8 m 9 ∨ u8 m 8 ≠ 1 ∧ u8 m 8 ≠ 2) →
        Refused (.transfer t) source m s s2 .range)
    ∧ ∀ (src dst : Fin 16) (ch : Fin 8) (port : Port), s2.mgmt.mode ≠ .passThrough →
    u8 m 1 = src.val → u8 m 2 = dst.val → u8 m 9 = ch.val → (u8 m 8 = 1 ∧ port = .M ∨ u8 m 8 = 2 ∧ port = .T) →
    let amount := u32 m 3
    let mg : Int := ((amount * 1000000 : Nat) : Int)
    let x : Xfer :=
      { number := s2.transfers.nextNumber, source := src, dest := dst, amount := amount, pumpNode := u8 m 7,
        pumpPort := port, channel := ch, moved := 0, state := .pending, code := none, pumpStopped := false,
        startTimer := none, stopTimer := none, repeatTimer := none }
    let next := if s2.transfers.nextNumber < 255 then s2.transfers.nextNumber + 1 else 1
    let number := BitVec.ofNat 8 s2.transfers.nextNumber
    let inRange := src ≠ dst ∧ s2.tankDefined src = true ∧ s2.tankDefined dst = true ∧ 1 ≤ amount ∧ amount ≤ 200000
      ∧ 1 ≤ u8 m 7 ∧ u8 m 7 ≤ 126 ∧ u8 m 7 ≠ s2.node
      ∧ ∃ row, s2.fuel.channels.get ch = some row ∧ row.kind = .transfer
    let full := s2.transfers.active ≠ none ∧ s2.transfers.waiting ≠ none
    let enough := mg ≤ (s2.acct src).content
    let room := mg ≤ s2.capacityMg dst - (s2.acct dst).content
    let fast := s2.hoseFast src = true ∧ s2.hoseFast dst = true
    (inRange → enough → room → fast → s2.transfers.active = none →
      Served (.transfer t) source m s s2
        { s2 with transfers := { s2.transfers with
            nextNumber := next
            active := some { x with
              state := .starting, startTimer := some (s2.now + 10000), repeatTimer := some (s2.now + 1000) } } }
        [number] [] fun u => Queues s2 u port (s2.pumpFrame x false))
    ∧ (inRange → enough → room → fast → s2.transfers.active ≠ none → s2.transfers.waiting = none →
        Served (.transfer t) source m s s2
          { s2 with transfers := { s2.transfers with nextNumber := next, waiting := some x } } [number] []
          (QueuesNothing s2))
    ∧ (¬ inRange → Refused (.transfer t) source m s s2 .range)
    ∧ (inRange → full → Refused (.transfer t) source m s s2 .slotFull)
    ∧ (inRange → ¬ full → ¬ enough → Refused (.transfer t) source m s s2 .insufficient)
    ∧ (inRange → ¬ full → enough → ¬ room → Refused (.transfer t) source m s s2 .noRoom)
    ∧ (inRange → ¬ full → enough → room → ¬ fast → Refused (.transfer t) source m s s2 .hoseNotFast)

/-- R152: SUSPEND_TRANSFER and RESUME_TRANSFER, tested and acted on by the record they name. In PASS_THROUGH, where
the slots are empty, neither has a record to act on. The model's choice: where both records hold the number, the
ACTIVE one is meant (assumption log 65). -/
def Obligations.TransfersSuspendAndResume : Prop :=
  ∀ (t source : Nat) (m : List Byte) (s s2 : State),
    let named : Option Xfer → Prop := fun o => ∃ x, o = some x ∧ x.number = u8 m 1
    (Completes t .suspendTransfer source m s s2 →
      (¬ named s2.transfers.active → ¬ named s2.transfers.waiting → Refused (.suspendTransfer t) source m s s2 .range)
      ∧ (¬ named s2.transfers.active → named s2.transfers.waiting → Refused (.suspendTransfer t) source m s s2 .badState)
      ∧ ∀ x, s2.transfers.active = some x → x.number = u8 m 1 →
        (x.state ≠ .running → Refused (.suspendTransfer t) source m s s2 .badState)
        ∧ (x.state = .running → s2.mgmt.mode ≠ .passThrough →
            Served (.suspendTransfer t) source m s s2
              (s2.putActive (some { x with
                state := .suspending, pumpStopped := false, stopTimer := some (s2.now + 10000),
                repeatTimer := some (s2.now + 1000) })) [] []
              fun u => Queues s2 u x.pumpPort (s2.pumpFrame x true)))
    ∧ (Completes t .resumeTransfer source m s s2 →
      (¬ named s2.transfers.active → ¬ named s2.transfers.waiting → Refused (.resumeTransfer t) source m s s2 .range)
      ∧ (¬ named s2.transfers.active → named s2.transfers.waiting → Refused (.resumeTransfer t) source m s s2 .badState)
      ∧ ∀ x, s2.transfers.active = some x → x.number = u8 m 1 →
        let slack : Fin 16 → Prop := fun k => ∃ row, s2.fuel.tanks.get k = some row ∧ row.kind = .barge
          ∧ ∀ c, row.hose = some c → s2.madeFast c = false
        (x.state ≠ .suspended → Refused (.resumeTransfer t) source m s s2 .badState)
        ∧ (x.state = .suspended → (slack x.source ∨ slack x.dest) →
            Refused (.resumeTransfer t) source m s s2 .hoseNotFast)
        ∧ (x.state = .suspended → ¬ slack x.source → ¬ slack x.dest → s2.mgmt.mode ≠ .passThrough →
            Served (.resumeTransfer t) source m s s2
              (s2.putActive (some { x with
                state := .starting, pumpStopped := false, startTimer := some (s2.now + 10000), stopTimer := none,
                repeatTimer := some (s2.now + 1000) })) [] []
              fun u => Queues s2 u x.pumpPort (s2.pumpFrame x false)))

/-- R153, R150, R145: CANCEL_TRANSFER by the state of the record it names. A close makes the record the last closed
record and raises TRANSFER_CLOSED with its number, with the ATTENTION frame of 11.6 where the flag was clear and not
masked. The close of the ACTIVE record starts the PENDING record behind it, or closes it too when it fails its tests
(R146). The model's choice: where both records hold the number, the ACTIVE one is meant (assumption log 65). -/
def Obligations.CancelActsByTheRecordsState : Prop :=
  ∀ (t source : Nat) (m : List Byte) (s s2 : State), Completes t .cancelTransfer source m s s2 →
    let named : Option Xfer → Prop := fun o => ∃ x, o = some x ∧ x.number = u8 m 1
    (¬ named s2.transfers.active → ¬ named s2.transfers.waiting → Refused (.cancelTransfer t) source m s s2 .range)
    ∧ (∀ x, ¬ named s2.transfers.active → s2.transfers.waiting = some x → x.number = u8 m 1 →
        Served (.cancelTransfer t) source m s s2
          { s2 with transfers := { s2.transfers with waiting := none, lastClosed := some (x.closedAs .cancelled) } } []
          [.transferClosed]
          fun u => QueuesNothing s2 u ∧ Raised s2 u .transferClosed (some x.number)
            ∧ ((s2.flag .transferClosed).isSet = false → (s2.flag .transferClosed).masked = false →
                (s2.port .B).egress.length ≤ 16 →
                s2.closedAttention x (x.code.getD .cancelled) ∈ (u.port .B).egress))
    ∧ ∀ x, s2.transfers.active = some x → x.number = u8 m 1 →
      ((x.state = .starting ∨ x.state = .running) → s2.mgmt.mode ≠ .passThrough →
        Served (.cancelTransfer t) source m s s2
          (s2.putActive (some { x with
            state := .stopping, code := some .cancelled, pumpStopped := false, startTimer := none,
            stopTimer := some (s2.now + 10000), repeatTimer := some (s2.now + 1000) })) [] []
          fun u => Queues s2 u x.pumpPort (s2.pumpFrame x true))
      ∧ (x.state = .suspending →
          Served (.cancelTransfer t) source m s s2
            (s2.putActive (some { x with state := .stopping, code := some .cancelled })) [] [] (QueuesNothing s2))
      ∧ (x.state = .stopping → Served (.cancelTransfer t) source m s s2 s2 [] [] (QueuesNothing s2))
      ∧ (x.state = .suspended →
          Answers (exec (.cancelTransfer t) s) fun u =>
            u.now = s2.now ∧ Replies s2 u source [m.getD 0 0, 0#8] ∧ FlagsKept s2 u [.transferClosed]
            ∧ u.quiet = ({ s2 with transfers := u.transfers }.setArming none).quiet
            ∧ ClosesActive s2 u (x.closedAs .cancelled)
            ∧ ((s2.flag .transferClosed).isSet = false → (s2.flag .transferClosed).masked = false →
                (s2.port .B).egress.length ≤ 16 →
                s2.closedAttention x (x.code.getD .cancelled) ∈ (u.port .B).egress))

/-- R164: CLEAR_EVENTS clears the flags the set names, keeping their masks; SET_MASK masks exactly the events the set
names; both are answered DONE, and no ATTENTION frame follows from either. R163: a raise of a clear flag sets it with its
detail, and sends an ATTENTION frame, event number and detail, exactly when the flag is not masked; a raise of a flag
already set counts an occurrence, up to 4,294,967,295, and sends nothing. The frame of TRANSFER_CLOSED carries, in place of
the detail, the closed record in the compact form of 11.6, and the record becomes the last closed record (R145). Every
other flag but PORT_CONGESTED, which a frame may call for, stays. -/
def Obligations.EventsLatchAreClearedAndMasked : Prop :=
  (∀ (t source : Nat) (m : List Byte) (s s2 : State),
      let names : Event → Bool := fun e => (u32 m 1).testBit e.number.val
      let alone : State → Prop := fun u => (s2.port .B).egress.length ≤ 16 → NothingDue s →
        (u.port .B).egress = (s2.port .B).egress ++ s2.replyFrames source [m.getD 0 0, 0#8]
      let quietly : State → Prop := fun u =>
        u.now = s2.now ∧ u.quiet = (s2.setArming none).quiet ∧ QueuesNothing s2 u
        ∧ Replies s2 u source [m.getD 0 0, 0#8] ∧ alone u
      (Completes t .clearEvents source m s s2 →
        Answers (exec (.clearEvents t) s) fun u => quietly u
          ∧ ∀ e, (e = .portCongested → (s2.port .B).egress.length ≤ 16 ∧ NothingDue s) → u.flag e =
              (if names e then { s2.flag e with isSet := false, count := 0, detail := none } else s2.flag e))
      ∧ (Completes t .setMask source m s s2 →
          Answers (exec (.setMask t) s) fun u => quietly u
            ∧ ∀ e, (e = .portCongested → (s2.port .B).egress.length ≤ 16 ∧ NothingDue s) →
                u.flag e = { s2.flag e with masked := names e }))
  ∧ (∀ (e : Event) (d : Option Nat) (s : State), e ≠ .portCongested → e ≠ .transferClosed →
      (∀ e', e' ≠ .portCongested → e' ≠ e → (s.raise e d).flag e' = s.flag e')
      ∧ ((s.flag e).isSet = false → (s.raise e d).flag e = { s.flag e with isSet := true, detail := d })
      ∧ ((s.flag e).isSet = true → (s.raise e d).flag e = { s.flag e with
          count := if (s.flag e).count < 4294967295 then (s.flag e).count + 1 else (s.flag e).count })
      ∧ ((s.flag e).isSet = true ∨ (s.flag e).masked = true → (s.raise e d).switch = s.switch)
      ∧ ((s.flag e).isSet = false → (s.flag e).masked = false → (s.port .B).egress.length < 35 →
          ((s.raise e d).port .B).egress = (s.port .B).egress ++
            [{ id := { cls := 2#3, kind := 0x84#8, source := BitVec.ofNat 7 s.node, target := 0#7, last := true, part := 0#3 },
               data := [BitVec.ofNat 8 e.number.val, BitVec.ofNat 8 (d.getD 255)] }])
      ∧ (s.raise e d).quiet = s.quiet)
  ∧ ∀ (x : Xfer) (code : CloseCode) (s : State), x.code = some code →
      let u := s.noteClosed x
      let old := s.flag .transferClosed
      u.quiet = ({ s with transfers := { s.transfers with lastClosed := some x } }).quiet ∧ FlagsKept s u [.transferClosed]
      ∧ (old.isSet = false → u.flag .transferClosed = { old with isSet := true, detail := some x.number })
      ∧ (old.isSet = true → u.flag .transferClosed = { old with
          count := if old.count < 4294967295 then old.count + 1 else old.count })
      ∧ (old.isSet = true ∨ old.masked = true → u.switch = s.switch)
      ∧ (old.isSet = false → old.masked = false → (s.port .B).egress.length < 35 →
          (u.port .B).egress = (s.port .B).egress ++ [s.closedAttention x code])

/-! ## Demand intake (chapter 3) -/

/-- R34, R35, R37: a demand is refused NO_RIGHT when no station row names its source or the row lacks the right over the
job, NOT_IN_COMMAND when another station or none is in command, and, once heard, LAID_UP in that mode; the row's refusal
count rises in the second and third case. A refusal writes the last refusal record, raises DEMAND_REFUSED with the source,
and is not passed on. R36, R44: an accepted demand sets the job's last-heard time and returns it to ATTENDED. Only a PROP
job that was LOST has more to lift: its COMMAND_LOSS entry goes from every loaded lane. -/
def Obligations.DemandsAreTestedForRightAndCommand : Prop :=
  (∀ (t : Nat) (p : Port) (s s1 : State) (k : MsgKind) (q : Received), s.delivery t p = some (k, q, s1) →
      k ∈ [MsgKind.speedDemand, .groupDemand, .neutralDemand, .kickDemand, .crashAstern, .helmDemand] →
      let source := q.frame.id.source.toNat
      let j : Job := if k = .helmDemand then .steer else .prop
      let object : Object := match k with
        | .helmDemand => .helm
        | .crashAstern => .none
        | .groupDemand => (match idx 2 (u8 q.frame.data 0) with | some g => .group g | none => .none)
        | _ => (match idx 4 (u8 q.frame.data 0) with | some l => .lane l | none => .none)
      let refused : Reason → State → State := fun why x => { x with intake := { x.intake with
        lastRefusal := some { source := source, kind := k, reason := why, object := object } } }
      let counted : Fin 4 → State := fun i => { s1 with intake := { s1.intake with
        refusals := s1.intake.refusals.set i
          (if s1.intake.refusals.get i < 4294967295 then s1.intake.refusals.get i + 1 else s1.intake.refusals.get i) } }
      let noted : State → Prop := fun u => QueuesNothing s1 u ∧ Raised s1 u .demandRefused (some source)
      (s1.stationOf source = none →
        Becomes (.classifyFrame t p) s s1 (refused .noRight s1) [.demandRefused] noted)
      ∧ (∀ i row, s1.stationOf source = some i → s1.intake.stations.get i = some row → row.holds j = false →
          Becomes (.classifyFrame t p) s s1 (refused .noRight (counted i)) [.demandRefused] noted)
      ∧ (∀ i row, s1.stationOf source = some i → s1.intake.stations.get i = some row → row.holds j = true →
          (s1.job j).station ≠ some i →
          Becomes (.classifyFrame t p) s s1 (refused .notInCommand (counted i)) [.demandRefused] noted)
      ∧ (∀ i row, s1.stationOf source = some i → s1.intake.stations.get i = some row → row.holds j = true →
          (s1.job j).station = some i → s1.mgmt.mode = .laidUp →
          Becomes (.classifyFrame t p) s s1 (refused .laidUp (s1.hear j q.arrival)) [.demandRefused]
            fun u => Raised s1 u .demandRefused (some source)))
  ∧ (∀ (s : State) (j : Job) (arrival : Nat),
      let heard := s.setJob j { s.job j with lastHeard := some arrival, loss := .attended }
      (¬ (j = .prop ∧ s.intake.prop.loss = .lost) → (s.hear j arrival).quiet = heard.quiet)
      ∧ (s.hear j arrival).lessDrive = heard.lessDrive
      ∧ (j = .prop → s.intake.prop.loss = .lost → ∀ l row, s.lanes.rows.get l = some row →
          (s.hear j arrival).lanes.ceils.get l = { s.lanes.ceils.get l with commandLoss := none })
      ∧ FlagsKept s (s.hear j arrival) [])

/-- R42, R43: in ATTENDED the demand timeout takes a job to HOLDING from its expiry; the expiry of the hold takes it
to LOST and raises COMMAND_LOSS with the job: PROP posts a COMMAND_LOSS entry at idle speed on every loaded lane,
STEER sets the helm target to 0 and evaluates every actuator. A timer that is not due changes nothing. R41: a release
by the station in command empties the job; in ATTENDED a loss begins at its arrival, in HOLDING and LOST the loss goes
on. A release by any other row is counted against that row, and one from no row does nothing. The model's choices: an
expiry taken late begins the hold at that step (assumption log 3), and a released job keeps its last-heard time
(assumption log 49). -/
def Obligations.AJobIsHeldThenLost : Prop :=
  (∀ (t : Nat) (j : Job) (s : State), s.held = false →
      let s1 := s.at t
      (∀ h, (s.job j).loss = .attended → (s.job j).lastHeard = some h → h + s.intake.demandTimeout ≤ s1.now →
        0 < s.intake.holdTime →
        Becomes (.demandTimeoutExpiry t j) s s1 (s.setJob j { s.job j with loss := .holding s1.now }) []
          (QueuesNothing s1))
      ∧ (∀ h, (s.job j).lastHeard = some h → s1.now < h + s.intake.demandTimeout →
          Becomes (.demandTimeoutExpiry t j) s s1 s [] (QueuesNothing s1))
      ∧ (∀ since, s.intake.steer.loss = .holding since → since + s.intake.holdTime ≤ s1.now → s.steering.helm ≠ 0 →
          Becomes (.commandHoldExpiry t .steer) s s1
            (({ s with steering := { s.steering with helm := 0 } }.setJob .steer
              { s.intake.steer with loss := .lost }).evaluateAll) [.commandLoss]
            fun u => QueuesNothing s1 u ∧ Raised s1 u .commandLoss (some 1))
      ∧ (∀ since, s.intake.prop.loss = .holding since → since + s.intake.holdTime ≤ s1.now →
          Answers (exec (.commandHoldExpiry t .prop) s) fun u =>
            u.now = s1.now ∧ FlagsKept s1 u [.commandLoss] ∧ Raised s1 u .commandLoss (some 0)
            ∧ u.lessDrive = (s.setJob .prop { s.intake.prop with loss := .lost }).lessDrive
            ∧ ∀ l row, s.lanes.rows.get l = some row →
                u.lanes.ceils.get l = { s.lanes.ceils.get l with commandLoss := some row.idle }
                ∧ (u.lane l).targetDir = (s.lane l).targetDir ∧ (u.lane l).targetSpeed = (s.lane l).targetSpeed))
  ∧ (∀ (t : Nat) (p : Port) (s s1 : State) (q : Received), s.delivery t p = some (.releaseCommand, q, s1) →
      let source := q.frame.id.source.toNat
      let j : Job := if u8 q.frame.data 0 = 0 then .prop else .steer
      (s1.stationOf source = none → Becomes (.releaseCommand t p) s s1 s1 [] (QueuesNothing s1))
      ∧ ∀ i, s1.stationOf source = some i →
        ((s1.job j).station ≠ some i →
          Becomes (.releaseCommand t p) s s1 (s1.countRefusal i) [] (QueuesNothing s1))
        ∧ ((s1.job j).station = some i → (s1.job j).loss = .attended → 0 < s1.intake.holdTime →
            Becomes (.releaseCommand t p) s s1
              (s1.setJob j { s1.job j with station := none, loss := .holding q.arrival }) [] (QueuesNothing s1))
        ∧ ((s1.job j).station = some i → (s1.job j).loss ≠ .attended →
            Becomes (.releaseCommand t p) s s1 (s1.setJob j { s1.job j with station := none }) [] (QueuesNothing s1)))

/-- R38, R39, R40, R45: a take by the first test that applies. An accepted take makes its station the station in command,
heard at the take's arrival and ATTENDED, and raises COMMAND_HANDOVER with it unless it renews; a refused one leaves the
job's record and counts against its row. Every take is recorded as the most recent take. R39: a PROP take matches when
every loaded lane in NEUTRAL, ENGAGING, AHEAD, ASTERN or DISENGAGING has a lever at its target: the group's while it is in
step, its own otherwise; a target of speed 0 counts as NEUTRAL, and outside NEUTRAL the speeds may differ by the row's
tolerance. A STEER take matches when its helm value is within the row's helm tolerance. -/
def Obligations.TakesHandOverCommand : Prop :=
  (∀ (t : Nat) (p : Port) (s s1 : State) (q : Received), s.delivery t p = some (.takeCommand, q, s1) →
      let source := q.frame.id.source.toNat
      let j : Job := if u8 q.frame.data 0 = 0 then .prop else .steer
      let noted : TakeResult → State → State := fun res x =>
        { x with intake := { x.intake with lastTake := some { source := source, job := j, result := res } } }
      let refused : Reason → State → State := fun why x => { x with intake := { x.intake with
        lastRefusal := some { source := source, kind := .takeCommand, reason := why, object := .job j } } }
      let taken : Fin 4 → State → State := fun i x =>
        x.setJob j { station := some i, lastHeard := some q.arrival, loss := .attended }
      (s1.stationOf source = none →
        Becomes (.takeCommand t p) s s1 (refused .noRight (noted .noRight s1)) [.demandRefused]
          fun u => Raised s1 u .demandRefused (some source))
      ∧ ∀ i row, s1.stationOf source = some i → s1.intake.stations.get i = some row →
        (row.holds j = false →
          Becomes (.takeCommand t p) s s1 (refused .noRight (noted .noRight (s1.countRefusal i))) [.demandRefused]
            fun u => Raised s1 u .demandRefused (some source))
        ∧ (row.holds j = true → (s1.job j).station = some i → ¬ (j = .prop ∧ s1.intake.prop.loss = .lost) →
            Becomes (.takeCommand t p) s s1 (taken i (noted .renewal s1)) [] (QueuesNothing s1))
        ∧ (row.holds j = true → (s1.job j).station ≠ some i →
            ((s1.job j).station = none ∨ row.override = true ∨ s1.leversMatch row j q.frame.data = true) →
            ¬ (j = .prop ∧ s1.intake.prop.loss = .lost) →
            Becomes (.takeCommand t p) s s1 (taken i (noted .accepted s1)) [.commandHandover]
              fun u => Raised s1 u .commandHandover (some source))
        ∧ (row.holds j = true → j = .prop → s1.intake.prop.loss = .lost →
            ((s1.job j).station = some i ∨ (s1.job j).station = none ∨ row.override = true
              ∨ s1.leversMatch row j q.frame.data = true) →
            Answers (exec (.takeCommand t p) s) fun u =>
              u.lessDrive = (taken i (noted (if (s1.job j).station = some i then .renewal else .accepted) s1)).lessDrive
              ∧ FlagsKept s1 u [.commandHandover]
              ∧ ((s1.job j).station ≠ some i → Raised s1 u .commandHandover (some source))
              ∧ ∀ l lane, s1.lanes.rows.get l = some lane →
                  u.lanes.ceils.get l = { s1.lanes.ceils.get l with commandLoss := none })
        ∧ (row.holds j = true → (s1.job j).station ≠ some i → (s1.job j).station ≠ none → row.override = false →
            s1.leversMatch row j q.frame.data = false →
            Becomes (.takeCommand t p) s s1 (refused .mismatch (noted .mismatch (s1.countRefusal i))) [.demandRefused]
              fun u => Raised s1 u .demandRefused (some source)))
  ∧ (∀ (s : State) (row : StationRow) (d : List Byte),
      (s.leversMatch row .prop d = true ↔ ∀ l lane, s.lanes.rows.get l = some lane → (s.lane l).state.ordered = true →
        ∃ (dir : Dir) (speed : Nat),
          ((∃ g, lane.home = some g ∧ (s.lane l).inStep = true ∧ dir = (s.groups.recs.get g).targetDir
              ∧ speed = (s.groups.recs.get g).targetSpeed)
            ∨ ((lane.home = none ∨ (s.lane l).inStep = false) ∧ dir = (s.lane l).targetDir
              ∧ speed = (s.lane l).targetSpeed))
          ∧ (if dir = .neutral ∨ speed = 0 then leverDir d l = 0
            else leverDir d l = (if dir = .ahead then 1 else 2)
              ∧ leverSpeed d l ≤ speed + row.speedTol ∧ speed ≤ leverSpeed d l + row.speedTol))
      ∧ (s.leversMatch row .steer d = true ↔ (i16 d 1 - s.steering.helm).natAbs ≤ row.helmTol))

/-- R45, R74, R107, R127, R169, 11.5: a COMMAND_STATE, a lane's two summary frames, the helm summary with one frame
for each loaded actuator, and a coupling's summary are queued on B, class 5 and broadcast, when 1,000 ms have passed
since the last, and that period starts afresh. Nothing else changes. The model's choices: bits of a LANE_SUMMARY
without a meaning are 0 (assumption log 41), an empty row counts in no number of actuators (assumption log 52), and
the alarm and the take that are absent are free (assumption log 10). -/
def Obligations.SummariesGoOutEachSecond : Prop :=
  ∀ (t : Nat) (s : State), s.held = false → NothingDue s → (s.port .B).egress.length ≤ 26 →
    let s1 := s.at t
    let queued : State → List CmsFrame → Prop := fun u fs =>
      LooksLike s1 s u [] ∧ QueuesNothing s1 u ∧ (u.port .B).egress = (s.port .B).egress ++ fs
    let broadcast : MsgKind → List Byte → CmsFrame := fun k d =>
      { id := { cls := 5#3, kind := k.number, source := BitVec.ofNat 7 s.node, target := 0#7, last := true, part := 0#3 },
        data := d }
    (s.intake.stateAt ≤ s1.now → Answers (exec (.commandStatePeriod t) s) fun u =>
      queued u [broadcast .commandState
        [BitVec.ofNat 8 (s.commandNode .prop), BitVec.ofNat 8 s.intake.prop.loss.code,
         BitVec.ofNat 8 (s.commandNode .steer), BitVec.ofNat 8 s.intake.steer.loss.code,
         BitVec.ofNat 8 ((s.intake.lastTake.map (·.source)).getD 0),
         (match s.intake.lastTake with | some x => BitVec.ofNat 8 (jobCode x.job) | none => Config.noTakeJobByte),
         BitVec.ofNat 8 ((s.intake.lastTake.map (fun x => x.result.code)).getD 0)]]
      ∧ u.intake.stateAt = s1.now + 1000)
    ∧ (∀ l row, s.lanes.rows.get l = some row → (s.lane l).summaryAt ≤ s1.now →
        Answers (exec (.laneSummaryPeriod t l) s) fun u =>
          queued u [broadcast .laneSummary (s.laneFrame0 l row), broadcast .laneSummary (s.laneFrame1 l row)]
          ∧ (u.lane l).summaryAt = s1.now + 1000)
    ∧ (s.steering.summaryAt ≤ s1.now → Answers (exec (.helmSummaryPeriod t) s) fun u =>
        queued u (broadcast .helmSummary s.helmFrame ::
          ((indices 8).filter (fun a => (s.steering.rows.get a).isSome)).map
            (fun a => broadcast .helmSummary (s.actFrame a)))
        ∧ u.steering.summaryAt = s1.now + 1000)
    ∧ (∀ c, s.couplings.rows.get c ≠ none → (s.coup c).summaryAt ≤ s1.now →
        Answers (exec (.couplingSummaryPeriod t c) s) fun u =>
          queued u [broadcast .couplingSummary (coupFrame c (s.coup c))] ∧ (u.coup c).summaryAt = s1.now + 1000)
    ∧ (s1.now < s.intake.stateAt → exec (.commandStatePeriod t) s = .next s1)

/-! ## Lanes (chapter 4) -/

/-- R58, R59 to R63, R69, R70, R72, R90: a lane demand that intake has accepted and that no test of R58 refuses. A
SPEED_DEMAND of speed 0 asks for NEUTRAL, a KICK_DEMAND of speed 0 for its direction at idle speed. The lane first
leaves its step group, with LEFT_GROUP raised. A demand equal to the lane's target is a refresh: it changes nothing,
but that a SPEED_DEMAND or NEUTRAL_DEMAND takes over a kick. Any other is a change, made by the table of section 4.6
with the crash flag clear; entering ENGAGING or DECLUTCH queues the order of the new gear. R58, R69: the tests of a
lane demand, in their order, and the refusal that follows, for an index above 3 and an empty row LANE_FAULT: recorded,
raised as DEMAND_REFUSED, and without effect on the lane. The model's choices: a lane that enters RAMPDOWN at idle
goes on to DECLUTCH in the same event (assumption log 13), a KICK_DEMAND equal to an ordinary target starts no kick
(assumption log 14), a refused KICK_DEMAND of direction NEUTRAL is recorded as a KICK_DEMAND (assumption log 56), and
a SPEED_DEMAND equal to the target drops the marking of a pending or engaging kick too (assumption log 35). -/
def Obligations.LaneDemandsRefreshOrChangeTheTarget : Prop :=
  (∀ (t : Nat) (p : Port) (s h : State) (k : MsgKind) (q : Received) (l : Fin 4) (row : LaneRow),
      s.accepted t p k .prop = some (q, h) → k ∈ [MsgKind.speedDemand, .neutralDemand, .kickDemand] →
      u8 q.frame.data 0 = l.val → h.lanes.rows.get l = some row →
      let asked : Dir :=
        if k = .neutralDemand ∨ u8 q.frame.data 1 = 0 ∨ (k = .speedDemand ∧ u16 q.frame.data 2 = 0) then .neutral
        else if u8 q.frame.data 1 = 1 then .ahead else .astern
      let v : Nat := match asked with
        | .neutral => 0
        | .ahead => min row.maxAhead (max row.idle (u16 q.frame.data 2))
        | .astern => min row.maxAstern (max row.idle (u16 q.frame.data 2))
      let kick : Option Nat := if k = .kickDemand ∧ asked ≠ .neutral then some (min 30 (max 1 (u8 q.frame.data 4))) else none
      h.laneRefusal l row asked kick.isSome = none →
      let g := if (h.lane l).inStep = true then h.leaveGroup l else h
      let r := g.lane l
      let c : Instr := match k with
        | .speedDemand => .speedDemand t p
        | .neutralDemand => .neutralDemand t p
        | _ => .kickDemand t p
      let es : List Event := if (h.lane l).inStep = true then [.leftGroup] else []
      let left : State → Prop := fun u => (h.lane l).inStep = true → Raised h u .leftGroup (some l.val)
      (r.targetDir = asked → r.targetSpeed = v →
        Becomes c s h (if kick = none then g.setLane l r.dropKick else g) es fun u => left u ∧ QueuesNothing h u)
      ∧ (¬ (r.targetDir = asked ∧ r.targetSpeed = v) →
          let new := LaneRec.changed { r with crash := false } row asked v kick h.now
          Becomes c s h (g.laneBecomes l new) es fun u => left u ∧ LaneOrders h u l row r new))
  ∧ ((∀ (s : State) (l : Fin 4) (row : LaneRow) (d : Dir) (kick : Bool),
      let st := (s.lane l).state
      (st = .unsynced ∨ st = .fault → s.laneRefusal l row d kick = some .laneFault)
      ∧ (st = .stopped → s.laneRefusal l row d kick = some .notRunning)
      ∧ (st.ordered = true → d = .neutral → s.laneRefusal l row d kick = none)
      ∧ (st.ordered = true → d ≠ .neutral → s.boatReleasing row.boat = true →
          s.laneRefusal l row d kick = some .releaseInProgress)
      ∧ (st.ordered = true → d ≠ .neutral → s.boatReleasing row.boat = false → row.boat = .assist →
          s.assistCoupled = false → s.laneRefusal l row d kick = some .uncoupled)
      ∧ (st.ordered = true → d ≠ .neutral → s.boatReleasing row.boat = false →
          (row.boat = .main ∨ s.assistCoupled = true) →
          s.laneRefusal l row d kick = (if kick = true ∧ (st = .rampdown ∨ st = .declutch
              ∨ ((st = .engaging ∨ st = .ahead ∨ st = .astern) ∧ (s.lane l).gear ≠ d)) then some .kickReversal else none)))
    ∧ ∀ (t : Nat) (p : Port) (s h : State) (k : MsgKind) (q : Received),
        s.accepted t p k .prop = some (q, h) → k ∈ [MsgKind.speedDemand, .neutralDemand, .kickDemand] →
        let asked : Dir :=
          if k = .neutralDemand ∨ u8 q.frame.data 1 = 0 ∨ (k = .speedDemand ∧ u16 q.frame.data 2 = 0) then .neutral
          else if u8 q.frame.data 1 = 1 then .ahead else .astern
        let c : Instr := match k with
          | .speedDemand => .speedDemand t p
          | .neutralDemand => .neutralDemand t p
          | _ => .kickDemand t p
        let refused : Reason → Object → Prop := fun why o => Becomes c s h
          { h with intake := { h.intake with
              lastRefusal := some { source := q.frame.id.source.toNat, kind := k, reason := why, object := o } } }
          [.demandRefused]
          fun u => QueuesNothing h u ∧ Raised h u .demandRefused (some q.frame.id.source.toNat)
        (4 ≤ u8 q.frame.data 0 → refused .laneFault .none)
        ∧ (∀ l : Fin 4, u8 q.frame.data 0 = l.val → h.lanes.rows.get l = none → refused .laneFault (.lane l))
        ∧ ∀ (l : Fin 4) (row : LaneRow) (why : Reason), u8 q.frame.data 0 = l.val → h.lanes.rows.get l = some row →
          h.laneRefusal l row asked (decide (k = .kickDemand ∧ asked ≠ .neutral)) = some why → refused why (.lane l))

/-- R71, R91: CRASH_ASTERN suspends both groups and crashes every lane it applies to: a lane already targeted ASTERN
at its crash astern speed keeps its record, less a kick; any other takes that target by the table of section 4.6 with
the crash flag set, and clear again on a lane that is then ASTERN. Lanes it does not apply to are left out. The
model's choices: a refresh discards a kick as a change does (assumption log 15), and a lane that enters RAMPDOWN at
idle goes on to DECLUTCH in the same event (assumption log 13). -/
def Obligations.CrashAsternReversesEveryLaneItAppliesTo : Prop :=
  ∀ (t : Nat) (p : Port) (s h : State) (q : Received), s.accepted t p .crashAstern .prop = some (q, h) →
    let g := (h.suspendGroup 0).suspendGroup 1
    let applies : Fin 4 → LaneRow → Prop := fun l row =>
      (h.lane l).state.ordered = true ∧ (row.boat = .main ∨ h.assistCoupled = true) ∧ h.boatReleasing row.boat = false
    Answers (exec (.crashAstern t p) s) fun u =>
      u.now = h.now ∧ u.lessDrive = h.lessDrive ∧ FlagsKept h u [] ∧ u.lanes.ceils = h.lanes.ceils
      ∧ u.groups = g.groups ∧ (∀ i, (u.groups.recs.get i).suspended = true)
      ∧ (∀ l row, h.lanes.rows.get l = some row → applies l row →
          let r := (g.lane l).dropKick
          (r.targetDir = .astern → r.targetSpeed = row.crashSpeed → (u.lane l).core = r.core)
          ∧ (¬ (r.targetDir = .astern ∧ r.targetSpeed = row.crashSpeed) →
              let new := LaneRec.changed { r with crash := true } row .astern row.crashSpeed none h.now
              (u.lane l).core = (if new.state = .astern then { new with crash := false } else new).core))
      ∧ ∀ l, (h.lanes.rows.get l = none ∨ ∃ row, h.lanes.rows.get l = some row ∧ ¬ applies l row) →
          (u.lane l).core = (g.lane l).core

/-- R51, R52: in COORDINATING a lane in UNSYNCED is adopted from an ENGINE_STATUS by the first line of R52 that
applies: not from a LOCAL report or from gear MOVING; as STOPPED from an engine that does not run; as NEUTRAL at idle
speed, with the neutral-since time of the frame's arrival; as engaged at the reported speed, held within idle speed
and ceiling. An adopted NEUTRAL or engaged lane is ordered at once, and the reported speed and alarm are kept in every
case. R124: a lane adopted engaged abandons each release of a FACE or ASSIST coupling that bears its boat: SLACKED,
refused PROPULSION_ACTIVE to the source of the RELEASE, with COUPLING_REFUSED raised. The model's choice: the ramp
timer runs from the step (assumption log 43). -/
def Obligations.EngineStatusAdoptsALane : Prop :=
  ∀ (t : Nat) (p : Port) (s s1 : State) (q : Received) (l : Fin 4) (row : LaneRow),
    s.delivery t p = some (.engineStatus, q, s1) → s1.laneOf q.frame.id.source.toNat = some l →
    s1.lanes.rows.get l = some row → s1.mgmt.mode = .coordinating → (s1.lane l).state = .unsynced →
    (s1.lane l).inStep = false →
    let rep := engineReport q.frame.data
    let told := { s1.lane l with speed := some rep.speed, alarm := some rep.alarm }
    let fresh := { LaneRec.reset 0 with
      speed := some rep.speed, alarm := some rep.alarm, statusTimer := some (q.arrival + row.statusTimeout) }
    let c : Instr := .engineStatus t p
    (rep.localMode = true ∨ (rep.running = true ∧ rep.gear = none) →
      Becomes c s s1 (s1.setLane l told) [] (QueuesNothing s1))
    ∧ (rep.localMode = false → rep.running = false →
        Becomes c s s1 (s1.laneBecomes l { fresh with state := .stopped }) [] (QueuesNothing s1))
    ∧ (rep.localMode = false → rep.running = true → rep.gear = some .neutral →
        Becomes c s s1 (s1.laneBecomes l { fresh with
          state := .neutral, setpoint := row.idle, neutralSince := some q.arrival,
          refreshTimer := some (s1.now + row.refresh) }) []
          fun u => Queues s1 u row.port (s1.governorFrame l row .neutral row.idle))
    ∧ (∀ d, rep.localMode = false → rep.running = true → rep.gear = some d → d ≠ .neutral →
        let v := min (ceilingFor row (s1.lanes.ceils.get l) d) (max row.idle rep.speed)
        let new := { fresh with
          state := if d = .ahead then .ahead else .astern, gear := d, lastEngaged := some d, setpoint := v,
          targetDir := d, targetSpeed := v, rampTimer := some (s1.now + 100),
          refreshTimer := some (s1.now + row.refresh) }
        let borne : Fin 32 → Prop := fun x => ∃ r, s1.couplings.rows.get x = some r ∧ (r.kind = .face ∨ r.kind = .assist)
          ∧ r.bears = some row.boat ∧ (s1.coup x).state = .releasing
        (s1.boatReleasing row.boat = false →
          Becomes c s s1 (s1.laneBecomes l new) [] fun u => Queues s1 u row.port (s1.governorFrame l row d v))
        ∧ Answers (exec c s) fun u =>
            u.now = s1.now ∧ FlagsKept s1 u [.couplingRefused] ∧ (u.lane l).core = new.core
            ∧ (∀ j, j ≠ l → (u.lane j).core = (s1.lane j).core) ∧ u.lanes.ceils = s1.lanes.ceils
            ∧ u.groups = s1.groups ∧ u.couplings.permit = s1.couplings.permit
            ∧ (∀ x, ¬ borne x → (u.coup x).core = (s1.coup x).core)
            ∧ (∀ x n, borne x → (s1.coup x).releaser = some n → (u.coup x).core = { (s1.coup x).core with
                state := .slacked, releaser := none, opTimer := none, repeatTimer := none,
                refusal := some { source := n, order := .release, reason := .propulsionActive } })
            ∧ ((∃ x, borne x) → (u.flag .couplingRefused).isSet = true))

/-- R53, R54, R55, R63: in COORDINATING a running, REMOTE report tested against the state of a lane out of step. A
gear the state expects restarts the status timer alone; in ENGAGING the gear being engaged confirms it; in DECLUTCH
NEUTRAL confirms it and a pending engagement is taken up; any other gear is GEAR_MISMATCH, with one neutral order and
LANE_FAULT raised. R53, R56, R57: in COORDINATING a LOCAL report puts an ordered or STOPPED lane in FAULT with
LOCAL_CONTROL, and one from an engine that does not run puts an ordered lane or one in FAULT in STOPPED. A STOPPED
lane whose engine does not run has its status timer restarted; once it runs the lane is adopted as R52 says, NEUTRAL
with its order, engaged, or UNSYNCED on MOVING. A lane in FAULT takes LOCAL_CONTROL as its cause, and leaves FAULT on
a report that clears its cause, to be adopted from the same frame. In PASS_THROUGH and LAID_UP the report is kept and
has no further effect. The model's choices: in an ordered or STOPPED lane too the status timer counts from the frame's
arrival (assumption log 6, deduced from section 5.5; R51 states the arrival for a lane leaving UNSYNCED or FAULT
alone), the ramp and kick timers run from the step (assumption log 43), a recovered lane keeps the speed and alarm
reported (assumption log 19), and entry to FAULT keeps the last engaged direction and the neutral-since time
(assumption log 36). R67, R89: a lane in step that is confirmed engaged stands at the group point at once, cut to the
least effective ceiling of the members that ride then (the model's choice of the moment: assumption log 16). -/
def Obligations.EngineStatusConfirmsFaultsAndRecovers : Prop :=
  (∀ (t : Nat) (p : Port) (s s1 : State) (q : Received) (l : Fin 4) (row : LaneRow),
      s.delivery t p = some (.engineStatus, q, s1) → s1.laneOf q.frame.id.source.toNat = some l →
      s1.lanes.rows.get l = some row → s1.mgmt.mode = .coordinating → s1.boatReleasing row.boat = false →
      (s1.lane l).inStep = false → (s1.lane l).state.ordered = true →
      let rep := engineReport q.frame.data
      rep.localMode = false → rep.running = true →
      let old := s1.lane l
      let r := { old with
        speed := some rep.speed, alarm := some rep.alarm, statusTimer := some (q.arrival + row.statusTimeout) }
      let rides := old.state = .ahead ∨ old.state = .astern ∨ old.state = .rampdown
      let c : Instr := .engineStatus t p
      ((old.state = .neutral ∨ old.state = .engaging) ∧ (rep.gear = none ∨ rep.gear = some .neutral)
          ∨ old.state = .declutch ∧ (rep.gear = none ∨ rep.gear ≠ some .neutral ∧ rep.gear = old.lastEngaged)
          ∨ rides ∧ rep.gear = some old.gear →
        Becomes c s s1 (s1.setLane l r) [] (QueuesNothing s1))
      ∧ (old.state = .engaging → rep.gear = some old.gear → old.gear ≠ .neutral →
          Becomes c s s1 (s1.laneBecomes l { r with
            state := if old.gear = .ahead then .ahead else .astern, lastEngaged := some old.gear, clutchTimer := none,
            rampTimer := some (s1.now + 100), kickTimer := old.kickMark.map (fun k => s1.now + 1000 * k),
            kickMark := none, crash := if old.gear = .astern then false else old.crash }) [] (QueuesNothing s1))
      ∧ (old.state = .declutch → rep.gear = some .neutral →
          let idle := { r with
            state := .neutral, neutralTimer := none, neutralSince := some q.arrival, pending := none }
          let new := match old.pending with
            | none => idle
            | some x => idle.asked row x.dir x.speed x.kick s1.now
          Becomes c s s1 (s1.laneBecomes l new) [] fun u => LaneOrders s1 u l row old new)
      ∧ ((old.state = .neutral ∧ (rep.gear = some .ahead ∨ rep.gear = some .astern)
            ∨ old.state = .engaging ∧ (rep.gear = some .ahead ∨ rep.gear = some .astern) ∧ rep.gear ≠ some old.gear
            ∨ old.state = .declutch ∧ (rep.gear = some .ahead ∨ rep.gear = some .astern) ∧ rep.gear ≠ old.lastEngaged
            ∨ rides ∧ rep.gear ≠ some old.gear) →
          Becomes c s s1 (s1.laneBecomes l (r.faulted .gearMismatch)) [.laneFault] fun u =>
            Queues s1 u row.port (s1.governorFrame l row .neutral row.idle) ∧ Raised s1 u .laneFault (some l.val)))
  ∧ (∀ (t : Nat) (p : Port) (s s1 : State) (q : Received) (l : Fin 4) (row : LaneRow),
      s.delivery t p = some (.engineStatus, q, s1) → s1.laneOf q.frame.id.source.toNat = some l →
      s1.lanes.rows.get l = some row →
      let rep := engineReport q.frame.data
      let old := s1.lane l
      let told := { old with speed := some rep.speed, alarm := some rep.alarm }
      let c : Instr := .engineStatus t p
      (s1.mgmt.mode ≠ .coordinating → Becomes c s s1 (s1.setLane l told) [] (QueuesNothing s1))
      ∧ (s1.mgmt.mode = .coordinating → old.inStep = false → old.state.ordered = true → rep.localMode = true →
          Becomes c s s1 (s1.laneBecomes l (told.faulted .localControl)) [.laneFault] fun u =>
            QueuesNothing s1 u ∧ Raised s1 u .laneFault (some l.val))
      ∧ (s1.mgmt.mode = .coordinating → old.inStep = false → old.state.ordered = true → rep.localMode = false →
          rep.running = false →
          Becomes c s s1 (s1.laneBecomes l { LaneRec.reset 0 with
            state := .stopped, speed := some rep.speed, alarm := some rep.alarm,
            statusTimer := some (q.arrival + row.statusTimeout) }) [] (QueuesNothing s1))
      ∧ (s1.mgmt.mode = .coordinating → old.state = .fault → rep.localMode = true →
          Becomes c s s1 (s1.setLane l { told with cause := some .localControl }) [] (QueuesNothing s1))
      ∧ (s1.mgmt.mode = .coordinating → old.state = .fault → rep.localMode = false → rep.running = true →
          (old.cause = some .engageTimeout ∨ old.cause = some .disengageTimeout ∨ old.cause = some .gearMismatch) →
          rep.gear = none →
          Becomes c s s1 (s1.setLane l told) [] (QueuesNothing s1))
      ∧ (s1.mgmt.mode = .coordinating → old.state = .fault ∨ old.state = .stopped → rep.localMode = false →
          rep.running = true → rep.gear = some .neutral →
          Becomes c s s1 (s1.laneBecomes l { LaneRec.reset 0 with
            state := .neutral, speed := some rep.speed, alarm := some rep.alarm, setpoint := row.idle,
            neutralSince := some q.arrival, statusTimer := some (q.arrival + row.statusTimeout),
            refreshTimer := some (s1.now + row.refresh) }) []
            fun u => Queues s1 u row.port (s1.governorFrame l row .neutral row.idle))
      ∧ (∀ d, s1.mgmt.mode = .coordinating → old.state = .fault ∨ old.state = .stopped → old.inStep = false →
          s1.boatReleasing row.boat = false → rep.localMode = false → rep.running = true → rep.gear = some d →
          d ≠ .neutral →
          let v := min (ceilingFor row (s1.lanes.ceils.get l) d) (max row.idle rep.speed)
          Becomes c s s1 (s1.laneBecomes l { LaneRec.reset 0 with
            state := if d = .ahead then .ahead else .astern, speed := some rep.speed, alarm := some rep.alarm, gear := d,
            lastEngaged := some d, setpoint := v, targetDir := d, targetSpeed := v, rampTimer := some (s1.now + 100),
            statusTimer := some (q.arrival + row.statusTimeout), refreshTimer := some (s1.now + row.refresh) }) []
            fun u => Queues s1 u row.port (s1.governorFrame l row d v))
      ∧ (s1.mgmt.mode = .coordinating → (old.state = .stopped
            ∨ old.state = .fault ∧ (old.cause = some .statusLost ∨ old.cause = some .localControl)) →
          old.inStep = false → rep.localMode = false → rep.running = true → rep.gear = none →
          Becomes c s s1 (s1.laneBecomes l { LaneRec.reset 0 with
            speed := some rep.speed, alarm := some rep.alarm }) [] (QueuesNothing s1))
      ∧ (s1.mgmt.mode = .coordinating → old.state = .fault → old.inStep = false → rep.localMode = false →
          rep.running = false →
          Becomes c s s1 (s1.laneBecomes l { LaneRec.reset 0 with
            state := .stopped, speed := some rep.speed, alarm := some rep.alarm,
            statusTimer := some (q.arrival + row.statusTimeout) }) [] (QueuesNothing s1))
      ∧ (s1.mgmt.mode = .coordinating → old.state = .stopped → rep.localMode = false → rep.running = false →
          Becomes c s s1 (s1.setLane l { told with statusTimer := some (q.arrival + row.statusTimeout) }) []
            (QueuesNothing s1))
      ∧ (s1.mgmt.mode = .coordinating → old.state = .stopped → old.inStep = false → rep.localMode = true →
          Becomes c s s1 (s1.laneBecomes l (told.faulted .localControl)) [.laneFault] fun u =>
            QueuesNothing s1 u ∧ Raised s1 u .laneFault (some l.val)))
  ∧ (∀ (t : Nat) (p : Port) (s s1 : State) (q : Received) (l : Fin 4) (row : LaneRow) (g : Fin 2) (v : Nat),
      s.delivery t p = some (.engineStatus, q, s1) → s1.laneOf q.frame.id.source.toNat = some l →
      s1.lanes.rows.get l = some row → s1.mgmt.mode = .coordinating → row.home = some g →
      let rep := engineReport q.frame.data
      let old := s1.lane l
      let r := s1.groups.recs.get g
      let ceiling : Fin 4 → Nat → Prop := fun j x => ∃ x', s1.lanes.rows.get j = some x' ∧
        x = ceilingFor x' (s1.lanes.ceils.get j) (if (s1.lane j).gear = .astern then .astern else .ahead)
      old.state = .engaging → old.inStep = true → rep.localMode = false → rep.running = true →
      rep.gear = some old.gear → old.gear ≠ .neutral →
      v ≤ r.point → (∀ j ∈ l :: s1.riders g, ∀ x, ceiling j x → v ≤ x) →
      (v = r.point ∨ ∃ j ∈ l :: s1.riders g, ceiling j v) →
      let confirmed : LaneRec := { old with
        speed := some rep.speed, alarm := some rep.alarm, statusTimer := some (q.arrival + row.statusTimeout),
        state := if old.gear = .ahead then .ahead else .astern, lastEngaged := some old.gear, clutchTimer := none,
        rampTimer := some (s1.now + 100), kickTimer := old.kickMark.map (fun k => s1.now + 1000 * k),
        kickMark := none, crash := if old.gear = .astern then false else old.crash, setpoint := v,
        refreshTimer := if v = old.setpoint then old.refreshTimer else some (s1.now + row.refresh) }
      Answers (exec (.engineStatus t p) s) fun u =>
        u.now = s1.now ∧ u.lessDrive = s1.lessDrive ∧ FlagsKept s1 u [] ∧ u.lanes.ceils = s1.lanes.ceils
        ∧ u.groups = { s1.groups with recs := s1.groups.recs.set g { r with point := v } }
        ∧ (u.lane l).core = confirmed.core
        ∧ (v < r.point → ∀ j ∈ s1.riders g, (u.lane j).setpoint = v)
        ∧ (∀ j, j ∉ l :: s1.riders g → (u.lane j).core = (s1.lane j).core)
        ∧ (v = r.point → (∀ j, j ≠ l → (u.lane j).core = (s1.lane j).core)
            ∧ if v = old.setpoint then QueuesNothing s1 u
              else Queues s1 u row.port (s1.governorFrame l row old.gear v)))

/-- R55, R57, R61, R63: the status timer, the clutch confirm timer in ENGAGING and the neutral confirm timer in
DECLUTCH each put the lane in FAULT with their cause and raise LANE_FAULT; ENGAGE_TIMEOUT queues one neutral order.
The lane leaves its step group. R60, R70: when its dwell has passed a lane in NEUTRAL enters ENGAGING toward its
pending direction; when a kick's time is over an engaged lane takes target NEUTRAL by the table of section 4.6. The
model's choices: a kick over at idle speed takes the lane to DECLUTCH in the same event (assumption log 13), and entry
to FAULT keeps the last engaged direction and the neutral-since time (assumption log 36). -/
def Obligations.LaneTimersFaultOrMoveTheLane : Prop :=
  (∀ (t : Nat) (l : Fin 4) (row : LaneRow) (s : State), s.held = false → s.lanes.rows.get l = some row →
      let s1 := s.at t
      let r := s.lane l
      let left := s.leaveGroup l
      let faulted : LaneCause → State := fun why => left.laneBecomes l ((left.lane l).faulted why)
      (∀ e, r.statusTimer = some e → e ≤ s1.now → r.state ≠ .unsynced → r.state ≠ .fault →
        Becomes (.laneStatusTimeout t l) s s1 (faulted .statusLost) [.laneFault] fun u =>
          QueuesNothing s1 u ∧ Raised s1 u .laneFault (some l.val))
      ∧ (∀ e, r.clutchTimer = some e → e ≤ s1.now → r.state = .engaging → s.mgmt.mode = .coordinating →
          Becomes (.clutchConfirmTimeout t l) s s1 (faulted .engageTimeout) [.laneFault] fun u =>
            Queues s1 u row.port (s1.governorFrame l row .neutral row.idle) ∧ Raised s1 u .laneFault (some l.val))
      ∧ (∀ e, r.neutralTimer = some e → e ≤ s1.now → r.state = .declutch →
          Becomes (.neutralConfirmTimeout t l) s s1 (faulted .disengageTimeout) [.laneFault] fun u =>
            QueuesNothing s1 u ∧ Raised s1 u .laneFault (some l.val)))
  ∧ (∀ (t : Nat) (l : Fin 4) (row : LaneRow) (s : State), s.held = false → s.lanes.rows.get l = some row →
      s.mgmt.mode = .coordinating →
      let s1 := s.at t
      let r := s.lane l
      (∀ e x, r.state = .neutral → r.pending = some x → r.dwellTimer = some e → e ≤ s1.now →
        s.boatReleasing row.boat = false →
        Becomes (.dwellExpiry t l) s s1 (s.laneBecomes l { r with
          state := .engaging, gear := x.dir, pending := none, setpoint := row.idle, kickMark := x.kick,
          clutchTimer := some (s1.now + row.clutchTimeout), dwellTimer := none,
          refreshTimer := some (s1.now + row.refresh) }) []
          fun u => Queues s1 u row.port (s1.governorFrame l row x.dir row.idle))
      ∧ (∀ e, (r.state = .ahead ∨ r.state = .astern) → r.gear ≠ .neutral → r.kickTimer = some e → e ≤ s1.now →
          let new := r.changed row .neutral 0 none s1.now
          Becomes (.kickTimerExpiry t l) s s1 (s.laneBecomes l new) [] fun u => LaneOrders s1 u l row r new))

/-- R65, R62, R68: every 100 ms the setpoint of a riding lane out of step moves toward its goal, the target speed held
to the effective ceiling or idle speed in RAMPDOWN, by its ramp-up step, or its ramp-down step, crash ramp-down step
under the crash flag, and never past the goal; each change is ordered. In RAMPDOWN the idle speed brings DECLUTCH. A
refresh period without an order repeats the order. The model's choice: after a late step the next ramp step is due 100
ms after the earlier due moment (assumption log 5). -/
def Obligations.RampStepsAndRefreshesAreOrdered : Prop :=
  ∀ (t : Nat) (l : Fin 4) (row : LaneRow) (s : State), s.held = false → s.lanes.rows.get l = some row →
    s.mgmt.mode = .coordinating →
    let s1 := s.at t
    let r := s.lane l
    (∀ e, r.rampTimer = some e → e ≤ s1.now → (r.state = .ahead ∨ r.state = .astern ∨ r.state = .rampdown) →
      let top := ceilingFor row (s.lanes.ceils.get l) (if r.gear = .astern then .astern else .ahead)
      let goal := if r.state = .rampdown then row.idle else min r.targetSpeed top
      let down := if r.crash = true then row.crashRampDown else row.rampDown
      let v := if r.setpoint < goal then min goal (r.setpoint + row.rampUp) else max goal (r.setpoint - down)
      let ticked := { r with rampTimer := some (e + 100) }
      (r.inStep = true ∨ r.setpoint = goal → Becomes (.rampTimerExpiry t l) s s1 (s.setLane l ticked) [] (QueuesNothing s1))
      ∧ (r.inStep = false → v ≠ r.setpoint → ¬ (r.state = .rampdown ∧ v = row.idle) →
          Becomes (.rampTimerExpiry t l) s s1
            (s.setLane l { ticked with setpoint := v, refreshTimer := some (s1.now + row.refresh) }) []
            fun u => Queues s1 u row.port (s1.governorFrame l row r.gear v))
      ∧ (r.inStep = false → v ≠ r.setpoint → r.state = .rampdown → v = row.idle →
          Becomes (.rampTimerExpiry t l) s s1 (s.laneBecomes l { ticked with
            state := .declutch, gear := .neutral, setpoint := row.idle, kickMark := none, kickTimer := none,
            clutchTimer := none, rampTimer := none, neutralTimer := some (s1.now + row.neutralTimeout),
            refreshTimer := some (s1.now + row.refresh) }) []
            fun u => Queues s1 u row.port (s1.governorFrame l row .neutral row.idle)))
    ∧ (∀ e, r.refreshTimer = some e → e ≤ s1.now → r.state.ordered = true →
        Becomes (.laneRefreshExpiry t l) s s1
          (s.setLane l { r with refreshTimer := some (s1.now + row.refresh) }) []
          fun u => Queues s1 u row.port (s1.governorFrame l row r.gear r.setpoint))

/-! ## Step groups (chapter 5) -/

/-- R83, R84, R85: a GROUP_DEMAND equal to the group's target is a refresh, counted as ignored while the group is
suspended. Any other sets the target, normalised, and ends the suspension: the eligible home members are then in step, at
the target as normalised for each, without crash flag or kick; no other home member is; every riding member's setpoint is
the group point, the hold timer is stopped, and the ramp timer runs while a member is in step. -/
def Obligations.GroupDemandsGatherTheEligibleLanes : Prop :=
  ∀ (t : Nat) (p : Port) (s h : State) (q : Received) (g : Fin 2) (grow : GroupRow),
    s.accepted t p .groupDemand .prop = some (q, h) → u8 q.frame.data 0 = g.val →
    h.groups.rows.get g = some grow → h.homeMembers g ≠ [] →
    (∀ l, (h.lane l).targetDir = .neutral → (h.lane l).pending = none) →
    let r := h.groups.recs.get g
    let d : Dir := if u8 q.frame.data 1 = 0 ∨ u16 q.frame.data 2 = 0 then .neutral
      else if u8 q.frame.data 1 = 1 then .ahead else .astern
    let v := if d = .neutral then 0 else max (u16 q.frame.data 2) (h.groupIdle g)
    (r.targetDir = d → r.targetSpeed = v →
      Becomes (.groupDemand t p) s h (if r.suspended = true then h.putGroup g { r with
        ignored := if r.ignored < 4294967295 then r.ignored + 1 else r.ignored } else h) [] (QueuesNothing h))
    ∧ (¬ (r.targetDir = d ∧ r.targetSpeed = v) →
        Answers (exec (.groupDemand t p) s) fun u =>
          let r' := u.groups.recs.get g
          u.now = h.now ∧ u.lessDrive = h.lessDrive ∧ FlagsKept h u [] ∧ u.lanes.ceils = h.lanes.ceils
          ∧ (∀ i, i ≠ g → u.groups.recs.get i = h.groups.recs.get i)
          ∧ r'.targetDir = d ∧ r'.targetSpeed = v ∧ r'.suspended = false ∧ r'.ignored = r.ignored ∧ r'.holdStart = none
          ∧ (r'.rampTimer = none ↔ u.members g = [])
          ∧ (∀ l row, h.lanes.rows.get l = some row → row.home = some g → h.eligible g d l = true →
              (u.lane l).inStep = true ∧ (u.lane l).crash = false ∧ (u.lane l).kickTimer = none
              ∧ (u.lane l).kickMark = none ∧ (u.lane l).targetDir = d
              ∧ (u.lane l).targetSpeed = (if d = .neutral then 0 else
                  min (if d = .astern then row.maxAstern else row.maxAhead) (max row.idle v)))
          ∧ (∀ l row, h.lanes.rows.get l = some row → row.home = some g → h.eligible g d l = false →
              (u.lane l).inStep = false)
          ∧ (∀ l, (∀ row, h.lanes.rows.get l = some row → row.home ≠ some g) → (u.lane l).core = (h.lane l).core)
          ∧ ∀ l ∈ u.riders g, (u.lane l).setpoint = r'.point)

/-- R86, R87, R88: every 100 ms the group point moves. In RUNNING it rises by the least ramp-up step or falls by the
least ramp-down step toward the goal, the group target held to the least effective ceiling; a rise is held, with the
hold timer running, while a member lags by more than the tolerance. In GATHERING it falls toward the group's idle
speed. A change is written to every riding member, and lanes outside the group keep their records. R87, R90: when the
hold time is over every member that still lags leaves the group, OUT_OF_STEP raised for each; the others stay in step,
and the hold timer stops. A lane that leaves keeps its setpoint and target. R81: the row's tolerance is in force from
the group's next ramp expiry on, and a hold that expires before it judges by the tolerance in force. The model's
choices: after a late step the next one is due 100 ms after the earlier due moment (assumption log 5), and the
tolerance in force is a field of its own (assumption log 20). -/
def Obligations.TheGroupPointMovesAndLaggardsLeave : Prop :=
  (∀ (t : Nat) (g : Fin 2) (row : GroupRow) (s : State) (e : Nat), s.held = false → s.groups.rows.get g = some row →
      (s.groups.recs.get g).rampTimer = some e → e ≤ (s.at t).now → s.members g ≠ [] →
      let s1 := s.at t
      let r := s.groups.recs.get g
      let goal := match s.leastCeiling g with | some c => min r.targetSpeed c | none => r.targetSpeed
      let late := ∃ l ∈ s.members g, (row.tolerance : Int) < (r.point : Int) - (((s.lane l).speed.getD 0 : Nat) : Int)
      let moved : Nat → Prop := fun v => Answers (exec (.groupRampExpiry t g) s) fun u =>
        u.now = s1.now ∧ u.lessDrive = s.lessDrive ∧ FlagsKept s1 u [] ∧ u.lanes.ceils = s.lanes.ceils
        ∧ u.groups = { s.groups with recs := s.groups.recs.set g { r with
            point := v, holdStart := none, rampTimer := some (e + 100), tolerance := row.tolerance } }
        ∧ (∀ l, l ∉ s.riders g → (u.lane l).core = (s.lane l).core)
        ∧ (v ≠ r.point → ∀ l ∈ s.riders g, (u.lane l).setpoint = v)
        ∧ (v = r.point → ∀ l, (u.lane l).core = (s.lane l).core)
      (s.phase g = .running → r.point < goal → late →
        Becomes (.groupRampExpiry t g) s s1 (s.putGroup g { r with
          holdStart := some (r.holdStart.getD s1.now), rampTimer := some (e + 100), tolerance := row.tolerance }) []
          (QueuesNothing s1))
      ∧ (s.phase g = .running → r.point < goal → ¬ late → moved (min goal (r.point + s.leastUp g)))
      ∧ (s.phase g = .running → goal ≤ r.point → moved (max goal (r.point - s.leastDown g)))
      ∧ (s.phase g = .gathering → s.groupIdle g < r.point → moved (max (s.groupIdle g) (r.point - s.leastDown g)))
      ∧ (s.phase g = .gathering → r.point ≤ s.groupIdle g → moved r.point))
  ∧ (∀ (t : Nat) (g : Fin 2) (row : GroupRow) (s : State) (since : Nat), s.held = false →
      s.groups.rows.get g = some row → (s.groups.recs.get g).holdStart = some since →
      since + row.holdLimit ≤ (s.at t).now →
      let s1 := s.at t
      let r := s.groups.recs.get g
      let late : Fin 4 → Prop := fun l => l ∈ s.members g
        ∧ (r.tolerance : Int) < (r.point : Int) - (((s.lane l).speed.getD 0 : Nat) : Int)
      Answers (exec (.groupHoldExpiry t g) s) fun u =>
        u.now = s1.now ∧ u.lessDrive = s.lessDrive ∧ FlagsKept s1 u [.outOfStep] ∧ QueuesNothing s1 u
        ∧ u.lanes.ceils = s.lanes.ceils ∧ u.steering = { s.steering with summaryAt := u.steering.summaryAt }
        ∧ (∀ l, late l → (u.lane l).core = { (s.lane l).core with inStep := false })
        ∧ (∀ l, ¬ late l → (u.lane l).core = (s.lane l).core)
        ∧ ((∃ l, late l) → (u.flag .outOfStep).isSet = true)
        ∧ (u.groups.recs.get g).holdStart = none
        ∧ (u.groups.recs.get g).point = r.point ∧ (u.groups.recs.get g).targetSpeed = r.targetSpeed
        ∧ (u.groups.recs.get g).tolerance = r.tolerance
        ∧ ((∃ l, late l) → (∀ l ∈ s.members g, late l) → (u.groups.recs.get g).rampTimer = none))

/-! ## Steering (chapter 6) -/

/-- R101. -/
def Obligations.TargetsAreHelmTimesGainTimesFullScale : Prop :=
  ∀ (h g : Int) (fullScale limit : Nat), -1000 ≤ h → h ≤ 1000 → -1000 ≤ g → g ≤ 1000 → limit ≤ fullScale →
    let quotient := Int.tdiv (h * g * fullScale) 1000000
    (quotient < -(limit : Int) → actTarget h g fullScale limit = -(limit : Int))
    ∧ ((limit : Int) < quotient → actTarget h g fullScale limit = limit)
    ∧ (-(limit : Int) ≤ quotient → quotient ≤ limit → actTarget h g fullScale limit = quotient)
    ∧ (fullScale ≤ 900 → (h * g * fullScale).natAbs ≤ 900000000)
    ∧ (fullScale = 1000 → (h * g * fullScale).natAbs ≤ 1000000000)
    ∧ quotient.natAbs ≤ fullScale
    ∧ quotient.natAbs = (h * g * fullScale).natAbs / 1000000
    ∧ actTarget (-h) g fullScale limit = - actTarget h g fullScale limit

/-- R99, R100: an accepted HELM_DEMAND holds its value within 1,000 ‰ either way; a different value becomes the helm
target and every loaded actuator is evaluated: its gain column from its lane's state, its target from the active bank's
gain, 0 where the bank has no row. An equal value is a refresh. -/
def Obligations.HelmDemandsEvaluateEveryActuator : Prop :=
  ∀ (t : Nat) (p : Port) (s h : State) (q : Received), s.accepted t p .helmDemand .steer = some (q, h) →
    let v : Int := min 1000 (max (-1000) (i16 q.frame.data 0))
    let gains := match h.steering.active with | .A => h.steering.bankA | .B => h.steering.bankB
    let column : Fin 4 → Dir := fun l =>
      if h.lanes.rows.get l = none then .neutral
      else if (h.lane l).state = .ahead then .ahead else if (h.lane l).state = .astern then .astern else .neutral
    let gain : Fin 8 → Dir → Int := fun a d => match gains.get a with
      | none => 0
      | some x => (match d with | .ahead => x.ahead | .astern => x.astern | .neutral => x.neutral)
    (v = h.steering.helm → Becomes (.helmDemand t p) s h h [] (QueuesNothing h))
    ∧ (v ≠ h.steering.helm → ∃ recs : Tab 8 ActRec,
        (∀ a, recs.get a = (match h.steering.rows.get a with
          | none => h.act a
          | some row => { h.act a with
              column := column row.lane
              target := actTarget v (gain a (column row.lane)) row.fullScale row.limit }))
        ∧ Becomes (.helmDemand t p) s h { h with steering := { h.steering with helm := v, recs := recs } } []
            (QueuesNothing h))

/-- R104, R105, R106: every STEER_STATUS of a loaded actuator sets its reported position and alarm. In COORDINATING an
actuator in UNSYNCED or FAULT becomes TRACKING at the reported position held within its limit, evaluated, ordered and
timed, when every coupling on its reach path is MADE_FAST, and otherwise UNREACHABLE, with one order of 0 and
ACTUATOR_UNREACHABLE raised; one that is TRACKING has its status timer restarted. R102, R103, R105: every 100 ms a
TRACKING actuator's commanded value moves toward its target by at most its rate, and each change is ordered; a refresh
period without an order repeats the order; the status timer puts an UNSYNCED or TRACKING actuator in FAULT and raises
STEER_ACTUATOR_FAULT. The model's choices: the status timer that a STEER_STATUS starts or restarts counts from the
frame's arrival (assumption log 6, deduced from section 5.5), after a late rate step the next one is due 100 ms after
the earlier due moment (assumption log 5), and the rate timer of an adopted actuator runs from the step (assumption
log 43). -/
def Obligations.ActuatorsAreAdoptedSteppedAndFaulted : Prop :=
  (∀ (t : Nat) (p : Port) (s s1 : State) (q : Received) (a : Fin 8) (row : ActRow),
      s.delivery t p = some (.steerStatus, q, s1) → s1.actOf q.frame.id.source.toNat = some a →
      s1.steering.rows.get a = some row →
      let position := i16 q.frame.data 0
      let r := { s1.act a with position := some position, alarm := some (bitOf q.frame.data 2 0) }
      let v : Int := min (row.limit : Int) (max (-(row.limit : Int)) position)
      let reach := ∀ c ∈ row.path, s1.couplings.rows.get c ≠ none ∧ (s1.coup c).state = .madeFast
      let c : Instr := .steerStatus t p
      (s1.mgmt.mode ≠ .coordinating ∨ r.state = .unreachable → Becomes c s s1 (s1.setAct a r) [] (QueuesNothing s1))
      ∧ (s1.mgmt.mode = .coordinating → r.state = .tracking →
          Becomes c s s1 (s1.setAct a { r with statusTimer := some (q.arrival + row.statusTimeout) }) []
            (QueuesNothing s1))
      ∧ (s1.mgmt.mode = .coordinating → (r.state = .unsynced ∨ r.state = .fault) → reach →
          Becomes c s s1 (s1.setAct a { r with
            state := .tracking, commanded := v, column := s1.columnOf row.lane
            target := actTarget s1.steering.helm (s1.gain a (s1.columnOf row.lane)) row.fullScale row.limit
            rateTimer := some (s1.now + 100), refreshTimer := some (s1.now + row.refresh)
            statusTimer := some (q.arrival + row.statusTimeout) }) []
            fun u => Queues s1 u row.port (s1.steerFrame a row v))
      ∧ (s1.mgmt.mode = .coordinating → (r.state = .unsynced ∨ r.state = .fault) → ¬ reach →
          Becomes c s s1 (s1.setAct a { r with
            state := .unreachable, commanded := 0, target := 0, rateTimer := none, refreshTimer := none,
            statusTimer := none }) [.actuatorUnreachable]
            fun u => Queues s1 u row.port (s1.steerFrame a row 0) ∧ Raised s1 u .actuatorUnreachable (some a.val)))
  ∧ (∀ (t : Nat) (a : Fin 8) (row : ActRow) (s : State), s.held = false → s.steering.rows.get a = some row →
      let s1 := s.at t
      let r := s.act a
      let v : Int := if r.commanded < r.target then min r.target (r.commanded + row.rate)
        else max r.target (r.commanded - row.rate)
      (∀ e, r.state = .tracking → r.rateTimer = some e → e ≤ s1.now → r.commanded = r.target →
        Becomes (.actuatorRateExpiry t a) s s1 (s.setAct a { r with rateTimer := some (e + 100) }) [] (QueuesNothing s1))
      ∧ (∀ e, r.state = .tracking → r.rateTimer = some e → e ≤ s1.now → v ≠ r.commanded → s.mgmt.mode = .coordinating →
          Becomes (.actuatorRateExpiry t a) s s1 (s.setAct a { r with
            commanded := v, rateTimer := some (e + 100), refreshTimer := some (s1.now + row.refresh) }) []
            fun u => Queues s1 u row.port (s1.steerFrame a row v))
      ∧ (∀ e, r.state = .tracking → r.refreshTimer = some e → e ≤ s1.now → s.mgmt.mode = .coordinating →
          Becomes (.actuatorRefreshExpiry t a) s s1
            (s.setAct a { r with refreshTimer := some (s1.now + row.refresh) }) []
            fun u => Queues s1 u row.port (s1.steerFrame a row r.commanded))
      ∧ (∀ e, (r.state = .unsynced ∨ r.state = .tracking) → r.statusTimer = some e → e ≤ s1.now →
          Becomes (.actuatorStatusTimeout t a) s s1 (s.setAct a { r with
            state := .fault, rateTimer := none, refreshTimer := none, statusTimer := none }) [.steerActuatorFault]
            fun u => QueuesNothing s1 u ∧ Raised s1 u .steerActuatorFault (some a.val)))

/-! ## Couplings (chapter 7, and the derate of section 5.2) -/

/-- R78: the derate fraction is 1,000 ‰ at or below the soft limit, the floor at or above the hard limit, and between
them 1,000 less the exact fraction rounded up; it lies between the floor and 1,000 and never rises with the tension. A
tension is taken as reported, saturating at 4,000 kN, and a row whose soft limit is not below its hard limit is
refused RANGE. The model's choice: such a row is refused RANGE in every state of the coupling, RANGE before the
BAD_STATE of R108 (assumption log 53). -/
def Obligations.TheDerateFallsFromSoftToHardLimit : Prop :=
  (∀ (row : CoupRow) (x : Nat), row.soft < row.hard → row.floor ≤ 1000 →
    (x ≤ row.soft → row.derate x = 1000)
    ∧ (row.hard ≤ x → row.derate x = row.floor)
    ∧ (row.soft < x → x < row.hard →
        let part := (1000 - row.floor) * (x - row.soft)
        let span := row.hard - row.soft
        part ≤ (1000 - row.derate x) * span ∧ (1000 - row.derate x) * span < part + span ∧ row.derate x ≤ 1000)
    ∧ row.floor ≤ row.derate x ∧ row.derate x ≤ 1000 ∧ row.derate (x + 1) ≤ row.derate x)
  ∧ (∀ d : List Byte, (winchReport d).tension = if u16 d 0 < 4000 then u16 d 0 else 4000)
  ∧ (∀ own m row, coupRowOf own m = some row → row.soft < row.hard ∧ row.floor ≤ 1000)
  ∧ ∀ (t source : Nat) (m : List Byte) (s s2 : State), Completes t .loadCoupling source m s s2 → u16 m 13 ≤ u16 m 11 →
      Refused (.loadCouplingRow t) source m s s2 .range

/-- R111 to R116: a WINCH_STATUS takes the coupling's record through the table of section 7.3, in every device mode.
COUPLING_FAULT is raised on entry to FAULT, COUPLING_RELEASED when a hook is found open after SLACKED, MADE_FAST,
EASING, RELEASING or LOST, COUPLING_OVERLOAD when a report in MADE_FAST sets the overload flag. Every other coupling
keeps its record; unless MADE_FAST is entered or left, the transfers stay as they are; TENSION then stands on each
loaded lane of the boat it bears as the boat's derate does. The model's choices: the status timer that a report starts
or restarts counts from the frame's arrival, which R111 and R112 do not state (assumption log 6, deduced from section
5.5), a hook reported OPEN is tested before the other tests of R113, so it queues no hold and raises no
COUPLING_OVERLOAD (assumption log 63), and the frame that completes a make-up makes no overload or slack test
(assumption log 22). -/
def Obligations.WinchStatusMovesTheCoupling : Prop :=
  ∀ (t : Nat) (p : Port) (s s1 : State) (q : Received) (c : Fin 32) (row : CoupRow),
    s.delivery t p = some (.winchStatus, q, s1) → s1.coupOf q.frame.id.source.toNat = some c →
    s1.couplings.rows.get c = some row →
    let rep := winchReport q.frame.data
    let old := s1.coup c
    let new := old.reported row rep q.arrival
    Answers (exec (.winchStatus t p) s) fun u =>
      u.now = s1.now ∧ u.lessMade = (s1.setCoup c new).lessMade
      ∧ FlagsKept s1 u [.couplingFault, .couplingReleased, .couplingOverload, .actuatorUnreachable, .assistUncoupled,
          .transferClosed]
      ∧ (if rep.fault = true ∧ old.state ≠ .fault then Raised s1 u .couplingFault (some c.val)
          else u.flag .couplingFault = s1.flag .couplingFault)
      ∧ (if new.state = .released ∧ old.state ∈ [CoupState.slacked, .madeFast, .easing, .releasing, .lost] then
          Raised s1 u .couplingReleased (some c.val) else u.flag .couplingReleased = s1.flag .couplingReleased)
      ∧ (if new.state = .madeFast ∧ old.state ≠ .makingUp ∧ new.overload = true ∧ old.overload = false then
          Raised s1 u .couplingOverload (some c.val) else u.flag .couplingOverload = s1.flag .couplingOverload)
      ∧ ((old.state = .madeFast ↔ new.state = .madeFast) →
          u.transfers = s1.transfers ∧ u.lessDrive = (s1.setCoup c new).lessDrive
          ∧ (row.bears = none → u.quiet = (s1.setCoup c new).quiet))
      ∧ (row.bears = none → old.state = .easing → new.state = .slacked → s1.mgmt.mode ≠ .passThrough →
          Queues s1 u row.port (s1.winchFrame c row .hold))
      ∧ ∀ b l lane, row.bears = some b → s1.lanes.rows.get l = some lane → lane.boat = b →
          u.lanes.ceils.get l = { s1.lanes.ceils.get l with
            tension := if u.boatDerate b < 1000 then some (u.boatDerate b) else none }

/-- R114, R125, R73, R106, R150: when its slack time is over a coupling in MADE_FAST goes to LOST, with COUPLING_LOST
raised, and the departure is handed on: TENSION is posted afresh on the lanes of the boat it bears, every TRACKING
actuator whose reach path names it becomes UNREACHABLE, ASSIST_UNCOUPLED is raised if the ASSIST boat was coupled and
no longer is, and a transfer with a hose through it loses that hose: in STARTING and RUNNING it goes to STOPPING with
HOSE_LOST and one stop order, in SUSPENDING to STOPPING with flag and timers as they stood, and in SUSPENDED it closes
with HOSE_LOST at once and the PENDING record is tested again (R145, R146). R111, R115, R120: the status timer of a
watched coupling outside MADE_FAST and the timer of an operation each put the coupling in FAULT with their cause and
raise COUPLING_FAULT; an operation's timeout queues one hold order. The repeat timer queues the operation's order
again and runs 500 ms from then. -/
def Obligations.CouplingTimersLoseFaultAndRepeat : Prop :=
  (∀ (t : Nat) (c : Fin 32) (row : CoupRow) (s : State) (e : Nat), s.held = false →
      s.couplings.rows.get c = some row → (s.coup c).state = .madeFast → (s.coup c).slackTimer = some e →
      e ≤ (s.at t).now →
      let s1 := s.at t
      let new := { s.coup c with state := .lost, overload := false, slackTimer := none }
      Answers (exec (.slackTimerExpiry t c) s) fun u =>
        u.now = s1.now ∧ u.lessMade = (s.setCoup c new).lessMade
        ∧ FlagsKept s1 u [.couplingLost, .actuatorUnreachable, .assistUncoupled, .transferClosed]
        ∧ Raised s1 u .couplingLost (some c.val)
        ∧ (if s.assistCoupled = true ∧ row.bears = some .assist then Raised s1 u .assistUncoupled (some c.val)
            else u.flag .assistUncoupled = s1.flag .assistUncoupled)
        ∧ (∀ b l lane, row.bears = some b → s.lanes.rows.get l = some lane → lane.boat = b →
            u.lanes.ceils.get l = { s.lanes.ceils.get l with
              tension := if u.boatDerate b < 1000 then some (u.boatDerate b) else none })
        ∧ (∀ a r, s.steering.rows.get a = some r → (u.act a).state =
            (if c ∈ r.path ∧ (s.act a).state = .tracking then .unreachable else (s.act a).state))
        ∧ (∀ x, s.transfers.active = some x → (s.hoseThrough x.source c = true ∨ s.hoseThrough x.dest c = true) →
            (x.state = .starting ∨ x.state = .running) →
            u.transfers = { s.transfers with active := some { x with
              state := .stopping, code := some .hoseLost, pumpStopped := false, startTimer := none,
              stopTimer := some (s1.now + 10000), repeatTimer := some (s1.now + 1000) } }
            ∧ (row.bears = none → (∀ a r, s.steering.rows.get a = some r → c ∉ r.path) →
                s.mgmt.mode ≠ .passThrough → Queues s1 u x.pumpPort (s1.pumpFrame x true)))
        ∧ (∀ x, s.transfers.active = some x → (s.hoseThrough x.source c = true ∨ s.hoseThrough x.dest c = true) →
            (x.state = .suspending → u.transfers = { s.transfers with active := some { x with
              state := .stopping, code := some .hoseLost } })
            ∧ (x.state = .stopping → u.transfers = s.transfers)
            ∧ (x.state = .suspended → ClosesActive (s1.setCoup c new) u (x.closedAs .hoseLost))
            ∧ (x.state ≠ .suspended → u.flag .transferClosed = s.flag .transferClosed))
        ∧ ((∀ x, s.transfers.active = some x → s.hoseThrough x.source c = false ∧ s.hoseThrough x.dest c = false) →
            u.transfers = s.transfers))
  ∧ (∀ (t : Nat) (c : Fin 32) (row : CoupRow) (s : State), s.held = false → s.couplings.rows.get c = some row →
      let s1 := s.at t
      let r := s.coup c
      (∀ e, r.statusTimer = some e → e ≤ s1.now →
        r.state ∈ [CoupState.slacked, .makingUp, .easing, .releasing, .lost] →
        Becomes (.couplingStatusTimeout t c) s s1 (s.setCoup c (r.faulted .statusLost)) [.couplingFault] fun u =>
          QueuesNothing s1 u ∧ Raised s1 u .couplingFault (some c.val))
      ∧ (∀ e, r.statusTimer = some e → e ≤ s1.now → r.state = .madeFast →
          Answers (exec (.couplingStatusTimeout t c) s) fun u =>
            u.lessMade = (s.setCoup c (r.faulted .statusLost)).lessMade ∧ Raised s1 u .couplingFault (some c.val))
      ∧ (∀ e why, r.opTimer = some e → e ≤ s1.now → s.mgmt.mode ≠ .passThrough →
          (r.state = .makingUp ∧ why = .makeUpTimeout ∨ r.state = .easing ∧ why = .easeTimeout
            ∨ r.state = .releasing ∧ why = CoupCause.releaseTimeout) →
          Becomes (.couplingOperationTimeout t c) s s1 (s.setCoup c (r.faulted why)) [.couplingFault] fun u =>
            Queues s1 u row.port (s1.winchFrame c row .hold) ∧ Raised s1 u .couplingFault (some c.val))
      ∧ (∀ e act, r.repeatTimer = some e → e ≤ s1.now → s.mgmt.mode ≠ .passThrough →
          (r.state = .makingUp ∧ act = .heave ∨ r.state = .easing ∧ act = .payOut
            ∨ r.state = .releasing ∧ act = WinchAction.openHook) →
          Becomes (.couplingRepeatExpiry t c) s s1 (s.setCoup c { r with repeatTimer := some (s1.now + 500) }) []
            fun u => Queues s1 u row.port (s1.winchFrame c row act)))

/-- R46: a COUPLING_ORDER from a source that no row names, or whose row lacks COUPLE, is refused NO_RIGHT by demand
intake, with the coupling it names as object, counted against the row if there is one, and not passed on. R117, R118,
R119, R121, R122: a MAKE_UP, EASE, LOCK, UNLOCK or RELEASE with an index above 31 or of an empty row is refused RANGE;
MAKE_UP, EASE and UNLOCK are refused BAD_STATE in the states that do not admit them, UNLOCK and UNLOCK_ALL NO_PERMIT
from a source that does not hold the permit. The refusal stands in the coupling's record, when one is named, and in
the last order refusal, and COUPLING_REFUSED is raised. The model's choice: an order naming an index above 31 names no
coupling as object (assumption log 18). -/
def Obligations.CouplingOrdersAreRefusedByReason : Prop :=
  (∀ (t : Nat) (p : Port) (s s1 : State) (q : Received), s.delivery t p = some (.couplingOrder, q, s1) →
      let source := q.frame.id.source.toNat
      let named := u8 q.frame.data 0 ≤ 4 ∧ u8 q.frame.data 1 ≤ 31
      let refused : Object → State → State := fun o x => { x with intake := { x.intake with
        lastRefusal := some { source := source, kind := .couplingOrder, reason := .noRight, object := o } } }
      ∀ o : Object, ((∃ c : Fin 32, c.val = u8 q.frame.data 1 ∧ named ∧ o = .coupling c) ∨ ¬ named ∧ o = .none) →
      (s1.stationOf source = none →
        Becomes (.classifyFrame t p) s s1 (refused o s1) [.demandRefused] fun u =>
          QueuesNothing s1 u ∧ Raised s1 u .demandRefused (some source))
      ∧ (∀ i row, s1.stationOf source = some i → s1.intake.stations.get i = some row → row.couple = false →
          Becomes (.classifyFrame t p) s s1 (refused o (s1.countRefusal i)) [.demandRefused] fun u =>
            QueuesNothing s1 u ∧ Raised s1 u .demandRefused (some source)))
  ∧ (∀ (t : Nat) (p : Port) (s s1 : State) (q : Received) (o : CoupOrder), s.passed t p o = some (q, s1) →
      let source := q.frame.id.source.toNat
      let index := u8 q.frame.data 1
      let holder := ∃ x, s1.couplings.permit = some x ∧ x.holder = source
      let used : State → State := fun x => if o = .unlock ∨ o = .release then { x with couplings := { x.couplings with
        permit := match x.couplings.permit with
          | some y => if y.holder = source then none else some y
          | none => none } } else x
      let refused : Option (Fin 32) → CoupReason → Prop := fun c why =>
        Becomes (.classifyFrame t p) s s1 (used (s1.orderRefused source o c why)) [.couplingRefused] fun u =>
          QueuesNothing s1 u ∧ Raised s1 u .couplingRefused (c.map (·.val))
      (o ∈ [CoupOrder.makeUp, .ease, .lock, .unlock, .release] → 32 ≤ index → refused none .range)
      ∧ (∀ c : Fin 32, index = c.val → s1.couplings.rows.get c = none →
          o ∈ [CoupOrder.makeUp, .ease, .lock, .unlock, .release] → refused (some c) .range)
      ∧ (∀ (c : Fin 32) row, index = c.val → s1.couplings.rows.get c = some row →
          (o = .makeUp → (s1.coup c).state ∈ [CoupState.unsynced, .easing, .releasing, .fault] →
            refused (some c) .badState)
          ∧ (o = .ease → (s1.coup c).state ∈ [CoupState.unsynced, .released, .makingUp, .releasing, .lost, .fault] →
            refused (some c) .badState)
          ∧ (o = .unlock → ¬ holder → refused (some c) .noPermit)
          ∧ (o = .unlock → holder → (s1.coup c).state = .released → refused (some c) .badState))
      ∧ (o = .unlockAll → ¬ holder → refused none .noPermit))

/-- R118, R120: a MAKE_UP in range takes RELEASED, SLACKED or LOST to MAKING_UP: one heave order with the make-up
target, the make-up timer from the acceptance, the repeat timer, the lock as it was; in MAKING_UP and MADE_FAST it has
no effect. R119, R125: an EASE in range takes MADE_FAST to EASING: the slack timer stops, the ease timer runs from the
acceptance, and the departure reaches nothing but lanes, groups, actuators and transfers; in EASING and SLACKED it has
no effect. The model's choice: a MAKE_UP accepted in RELEASED starts no status timer (assumption log 45). -/
def Obligations.MakeUpHeavesAndEasePaysOut : Prop :=
  (∀ (t : Nat) (p : Port) (s s1 : State) (q : Received) (c : Fin 32) (row : CoupRow),
      s.passed t p .makeUp = some (q, s1) → u8 q.frame.data 1 = c.val → s1.couplings.rows.get c = some row →
      let r := s1.coup c
      (r.state ∈ [CoupState.released, .slacked, .lost] →
        Becomes (.makeUp t p) s s1 (s1.setCoup c { r with
          state := .makingUp, opTimer := some (s1.now + row.makeUpTimeout), repeatTimer := some (s1.now + 500) }) []
          fun u => Queues s1 u row.port (s1.winchFrame c row .heave))
      ∧ (r.state ∈ [CoupState.makingUp, .madeFast] → Becomes (.makeUp t p) s s1 s1 [] (QueuesNothing s1)))
  ∧ (∀ (t : Nat) (p : Port) (s s1 : State) (q : Received) (c : Fin 32) (row : CoupRow),
      s.passed t p .ease = some (q, s1) → u8 q.frame.data 1 = c.val → s1.couplings.rows.get c = some row →
      let r := s1.coup c
      let new := { r with
        state := .easing, overload := false, slackTimer := none, opTimer := some (s1.now + row.easeTimeout),
        repeatTimer := some (s1.now + 500) }
      (r.state = .madeFast →
        Answers (exec (.ease t p) s) fun u =>
          u.now = s1.now ∧ u.lessMade = (s1.setCoup c new).lessMade
          ∧ FlagsKept s1 u [.actuatorUnreachable, .assistUncoupled, .transferClosed]
          ∧ (row.bears = none → s1.transfers.active = none → row.port ≠ .B →
              (∀ a r, s1.steering.rows.get a = some r → c ∉ r.path) →
              Queues s1 u row.port (s1.winchFrame c row .payOut) ∧ u.quiet = (s1.setCoup c new).quiet))
      ∧ (r.state ∈ [CoupState.easing, .slacked] → Becomes (.ease t p) s s1 s1 [] (QueuesNothing s1)))

/-- R121, R122: LOCK sets a loaded coupling's lock and LOCK_ALL every loaded coupling's, without a permit. UNLOCK and
UNLOCK_ALL from the holder of the permit use it up; UNLOCK clears the lock of a loaded coupling that is not RELEASED,
UNLOCK_ALL that of every such coupling. R122: PERMIT sets the holder and the time of its arrival; 10,000 ms later the
record becomes absent. -/
def Obligations.LocksAndThePermit : Prop :=
  (∀ (t : Nat) (p : Port) (s s1 : State) (q : Received),
      let source := q.frame.id.source.toNat
      let holder := ∃ x, s1.couplings.permit = some x ∧ x.holder = source
      (∀ (c : Fin 32) (row : CoupRow), s.passed t p .lock = some (q, s1) → u8 q.frame.data 1 = c.val →
        s1.couplings.rows.get c = some row →
        Becomes (.lock t p) s s1 (s1.setCoup c { s1.coup c with lock := true }) [] (QueuesNothing s1))
      ∧ (s.passed t p .lockAll = some (q, s1) → ∃ recs : Tab 32 CoupRec,
          (∀ c, recs.get c = { s1.coup c with
            lock := if s1.couplings.rows.get c = none then (s1.coup c).lock else true })
          ∧ Becomes (.lockAll t p) s s1 { s1 with couplings := { s1.couplings with recs := recs } } []
              (QueuesNothing s1))
      ∧ (∀ (c : Fin 32) (row : CoupRow), s.passed t p .unlock = some (q, s1) → u8 q.frame.data 1 = c.val →
          s1.couplings.rows.get c = some row → holder → (s1.coup c).state ≠ .released →
          Becomes (.unlock t p) s s1 ((s1.setCoup c { s1.coup c with lock := false }).setPermit none) []
            (QueuesNothing s1))
      ∧ (s.passed t p .unlockAll = some (q, s1) → holder → ∃ recs : Tab 32 CoupRec,
          (∀ c, recs.get c = { s1.coup c with
            lock := if s1.couplings.rows.get c = none ∨ (s1.coup c).state = .released then (s1.coup c).lock else false })
          ∧ Becomes (.unlockAll t p) s s1 { s1 with couplings := { s1.couplings with recs := recs, permit := none } } []
              (QueuesNothing s1)))
  ∧ ((∀ (t : Nat) (p : Port) (s s1 : State) (q : Received), s.passed t p .permit = some (q, s1) →
      Becomes (.permit t p) s s1
        (s1.setPermit (some { holder := q.frame.id.source.toNat, setAt := q.arrival })) [] (QueuesNothing s1))
    ∧ ∀ (t : Nat) (s : State) (x : Permit), s.held = false → s.couplings.permit = some x →
        (x.setAt + 10000 ≤ (s.at t).now →
          Becomes (.permitExpiry t) s (s.at t) (s.setPermit none) [] (QueuesNothing (s.at t)))
        ∧ ((s.at t).now < x.setAt + 10000 → Becomes (.permitExpiry t) s (s.at t) s [] (QueuesNothing (s.at t))))

/-- R123, R122: a RELEASE in range is refused by the first test that fails: LOCKED, NO_PERMIT, NOT_SLACK,
PROPULSION_ACTIVE for a FACE or ASSIST coupling with an active lane of the boat it bears, HOSE_IN_USE. One that passes
takes the coupling to RELEASING with its lock set, queues one open-hook order, and has the pending engagements of the
borne boat's NEUTRAL lanes discarded. The holder's permit is used up whatever the outcome. -/
def Obligations.ReleasesPassFiveTests : Prop :=
  ∀ (t : Nat) (p : Port) (s s1 : State) (q : Received) (c : Fin 32) (row : CoupRow),
    s.passed t p .release = some (q, s1) → u8 q.frame.data 1 = c.val → s1.couplings.rows.get c = some row →
    let source := q.frame.id.source.toNat
    let r := s1.coup c
    let holder := ∃ x, s1.couplings.permit = some x ∧ x.holder = source
    let binds := row.kind = .face ∨ row.kind = .assist
    let driven := binds ∧ ∃ l lane, s1.lanes.rows.get l = some lane ∧ row.bears = some lane.boat
      ∧ (s1.lane l).state.active = true
    let hosed := ∃ x, (s1.transfers.active = some x ∨ s1.transfers.waiting = some x)
      ∧ (s1.hoseThrough x.source c = true ∨ s1.hoseThrough x.dest c = true)
    let used : State → State := fun x => { x with couplings := { x.couplings with
      permit := match x.couplings.permit with
        | some y => if y.holder = source then none else some y
        | none => none } }
    let refused : CoupReason → Prop := fun why =>
      Becomes (.release t p) s s1 (used (s1.orderRefused source .release (some c) why)) [.couplingRefused] fun u =>
        QueuesNothing s1 u ∧ Raised s1 u .couplingRefused (some c.val)
    (r.lock = true → refused .locked)
    ∧ (r.lock = false → ¬ holder → refused .noPermit)
    ∧ (r.lock = false → holder → r.state ≠ .slacked → refused .notSlack)
    ∧ (r.lock = false → holder → r.state = .slacked → driven → refused .propulsionActive)
    ∧ (r.lock = false → holder → r.state = .slacked → ¬ driven → hosed → refused .hoseInUse)
    ∧ (r.lock = false → holder → r.state = .slacked → ¬ driven → ¬ hosed →
        Answers (exec (.release t p) s) fun u =>
          let new := { r with
            state := .releasing, lock := true, releaser := some source,
            opTimer := some (s1.now + row.releaseTimeout), repeatTimer := some (s1.now + 500) }
          u.now = s1.now ∧ FlagsKept s1 u [] ∧ Queues s1 u row.port (s1.winchFrame c row .openHook)
          ∧ u.lessDrive = ((s1.setCoup c new).setPermit none).lessDrive
          ∧ (∀ l lane, s1.lanes.rows.get l = some lane → (u.lane l).core =
              (if binds ∧ row.bears = some lane.boat ∧ (s1.lane l).state = .neutral ∧ (s1.lane l).pending ≠ none then
                { (s1.lane l).core with
                  pending := none, targetDir := .neutral, targetSpeed := 0, dwellTimer := none, inStep := false }
              else (s1.lane l).core)))

/-! ## Fuel (chapter 8) -/

/-- R135: with a coefficient of at most 2,000 the density factor lies between 7,300,000 and 11,100,000; mass and new
remainder make up the product, with the remainder below one mg, and no pulses give no mass and keep the remainder.
R133, R134, R135, R137, R138: an ENGINE channel's first reading sets its baselines; a later one is discarded whole,
its baselines moved, when a counter is implausible; otherwise its draw, supply mass less return mass, is charged to
the feed tank of the lane that names the channel, or counted as unassigned when there is none or the tank is not
defined. The model's choices: the meter timer counts from the frame's arrival, which R133 states for the last reading
time alone (assumption log 6, deduced from section 5.5), a first reading is no unassigned flow (assumption log 21),
the unassigned mass is unbounded (assumption log 9), and an account sum outside 64 bits is a free value (assumption
log 8). -/
def Obligations.EngineReadingsChargeTheFeedTank : Prop :=
  (∀ (delta pulse rho alpha : Nat) (t10 : Int) (rem : Nat), alpha ≤ 2000 → rem < 100000000000 →
      let f := densityFactor alpha t10
      let n := massProduct delta pulse rho alpha t10 rem
      7300000 ≤ f ∧ f ≤ 11100000
      ∧ (t10 ≤ -400 → f = 10000000 + alpha * 550) ∧ (1500 ≤ t10 → f = 10000000 - alpha * 1350)
      ∧ (-400 ≤ t10 → t10 ≤ 1500 → f = 10000000 - alpha * (t10 - 150))
      ∧ (n : Int) = delta * pulse * rho * f + rem
      ∧ (delta * pulse ≤ 10000000 → rho ≤ 10000 → n < 1110000000000000000 + 100000000000)
      ∧ (delta = 0 → n / massUnit = 0 ∧ n % massUnit = rem))
  ∧ (∀ (t : Nat) (p : Port) (s s1 : State) (q : Received) (ch : Fin 8) (row : ChanRow),
      s.delivery t p = some (.meterReading, q, s1) → s1.chanOf q.frame.id.source.toNat = some ch →
      s1.fuel.channels.get ch = some row → row.kind = .engine →
      let rep := meterReport q.frame.data
      let old := s1.fuel.recs.get ch
      let based := { old with
        prevSupply := some rep.supply, prevReturn := some rep.return_, lastReading := some q.arrival,
        timer := some (q.arrival + row.timeout) }
      let c : Instr := .meterReading t p
      ((old.prevSupply = none ∨ old.prevReturn = none) →
        Becomes c s s1 (s1.putChan ch based) [] (QueuesNothing s1))
      ∧ ∀ ps pr, old.prevSupply = some ps → old.prevReturn = some pr →
        let ds := (rep.supply + 65536 - ps) % 65536
        let dr := (rep.return_ + 65536 - pr) % 65536
        let pulse := row.returnPulse.getD 0
        let bad := row.cap < ds ∨ 10000000 < ds * row.supplyPulse ∨ row.cap < dr ∨ 10000000 < dr * pulse
        let ns := massProduct ds row.supplyPulse (s1.densityFor ch row).1 (s1.densityFor ch row).2 rep.supplyTemp old.supplyRem
        let nr := massProduct dr pulse (s1.densityFor ch row).1 (s1.densityFor ch row).2 rep.returnTemp old.returnRem
        let draw : Int := ((ns / 100000000000 : Nat) : Int) - ((nr / 100000000000 : Nat) : Int)
        let counted := { based with supplyRem := ns % 100000000000, returnRem := nr % 100000000000 }
        (bad → Becomes c s s1 (s1.putChan ch { based with
            implausible := if old.implausible < 4294967295 then old.implausible + 1 else old.implausible })
          [.meterImplausible] fun u => QueuesNothing s1 u ∧ Raised s1 u .meterImplausible (some ch.val))
        ∧ (¬ bad → (s1.laneOfChannel ch = none
              ∨ ∃ lane, s1.laneOfChannel ch = some lane ∧ s1.tankDefined lane.feedTank = false) →
            Becomes c s s1 (s1.putChan ch { counted with
              unassigned := if old.unassigned < 4294967295 then old.unassigned + 1 else old.unassigned
              unassignedMass := old.unassignedMass + draw }) [.unassignedFlow]
            fun u => QueuesNothing s1 u ∧ Raised s1 u .unassignedFlow (some ch.val))
        ∧ ∀ lane, ¬ bad → s1.laneOfChannel ch = some lane → s1.tankDefined lane.feedTank = true →
          let k := lane.feedTank
          let a := s1.acct k
          let charged : TankAcct := { a with content := account (a.content - draw), drawn := account (a.drawn + draw) }
          Answers (exec c s) fun u =>
            u.now = s1.now ∧ FlagsKept s1 u [.tankOverdrawn, .tankReserve]
            ∧ u.fuel.recs = s1.fuel.recs.set ch counted
            ∧ u.fuel.tanks = s1.fuel.tanks ∧ u.fuel.channels = s1.fuel.channels
            ∧ (∀ j, j ≠ k → u.acct j = s1.acct j)
            ∧ { u.acct k with atReserve := false } = { charged with atReserve := false }
            ∧ (if 0 ≤ a.content ∧ charged.content < 0 then Raised s1 u .tankOverdrawn (some k.val)
                else u.flag .tankOverdrawn = s1.flag .tankOverdrawn)
            ∧ u.lessDrive = ({ s1 with fuel := u.fuel }).lessDrive)

/-- R141, R75: the reserve of a defined FEED tank: a content below the reserve sets a clear flag, raises TANK_RESERVE and
posts FUEL_RESERVE at its reserve cap on every lane the tank feeds; a content at or above reserve and hysteresis clears a
set flag and removes the entries; any other content, and any other tank, changes nothing. R139, R131: a transfer movement
takes m mg from its source and adds them to its destination, in content and totals, with no other account touched. -/
def Obligations.TheReserveFollowsTheContent : Prop :=
  (∀ (s : State) (k : Fin 16) (row : TankRow), s.fuel.tanks.get k = some row →
      let a := s.acct k
      let low := ((row.reserve * 1000000 : Nat) : Int)
      let high := (((row.reserve + row.hysteresis) * 1000000 : Nat) : Int)
      let u := s.evalReserve k
      (row.kind = .feed → a.defined = true → a.atReserve = false → a.content < low →
        u.acct k = { a with atReserve := true } ∧ Raised s u .tankReserve (some k.val)
        ∧ ∀ l lane, s.lanes.rows.get l = some lane → u.lanes.ceils.get l =
            (if lane.feedTank = k then { s.lanes.ceils.get l with fuelReserve := some lane.reserveCap }
            else s.lanes.ceils.get l))
      ∧ (row.kind = .feed → a.defined = true → a.atReserve = true → high ≤ a.content →
          u.acct k = { a with atReserve := false } ∧ FlagsKept s u []
          ∧ ∀ l lane, s.lanes.rows.get l = some lane → u.lanes.ceils.get l =
              (if lane.feedTank = k then { s.lanes.ceils.get l with fuelReserve := none } else s.lanes.ceils.get l))
      ∧ ((row.kind ≠ .feed ∨ a.defined = false ∨ (a.atReserve = false ∧ low ≤ a.content)
            ∨ (a.atReserve = true ∧ a.content < high)) → u = s)
      ∧ (∀ j, j ≠ k → u.acct j = s.acct j))
  ∧ (∀ (s : State) (src dst : Fin 16) (m : Nat), src ≠ dst → 0 < m →
      let a := s.acct src
      let b := s.acct dst
      let u := s.moveFuel src dst m
      FitsAccount (a.content - m) → FitsAccount (a.outTotal + m) → FitsAccount (b.content + m) →
      FitsAccount (b.inTotal + m) →
      { u.acct src with atReserve := false } = { a with
        content := a.content - m, outTotal := a.outTotal + m, atReserve := false }
      ∧ { u.acct dst with atReserve := false } = { b with
          content := b.content + m, inTotal := b.inTotal + m, atReserve := false }
      ∧ (∀ k, k ≠ src → k ≠ dst → u.acct k = s.acct k)
      ∧ (u.acct src).content + (u.acct dst).content = a.content + b.content
      ∧ (a.Balanced → (u.acct src).Balanced) ∧ (b.Balanced → (u.acct dst).Balanced)
      ∧ (if 0 ≤ a.content ∧ a.content < m then Raised s u .tankOverdrawn (some src.val)
          else u.flag .tankOverdrawn = s.flag .tankOverdrawn))

/-! ## Transfers (chapter 9) -/

/-- R139, R149, R151, R138: a plausible reading of the channel of a transfer in STARTING, RUNNING, SUSPENDING or
STOPPING moves its mass in full. The record then goes to STOPPING with COMPLETE at its amount, or else with DEST_FULL
at a full destination, from STARTING and RUNNING with one stop order, from SUSPENDING with flag and timers as they
stood; in STOPPING and otherwise it stays. R151: a reading without pulses taken with the pump-stopped flag set ends
SUSPENDING in SUSPENDED and STOPPING in the close with its code, after which a PENDING record is tested again (R145,
R146). A reading of a TRANSFER channel that no transfer in a metered state names is counted as unassigned. The model's
choices: COMPLETE and DEST_FULL are tested before the end of R151, so a reading that meets both in SUSPENDING closes
the record (assumption log 60), the meter timer counts from the frame's arrival, which R133 and R140 do not state
(assumption log 6, deduced from section 5.5), and the moved mass and the unassigned mass are unbounded (assumption log
9). -/
def Obligations.TransferReadingsMoveTheirMass : Prop :=
  ∀ (t : Nat) (p : Port) (s s1 : State) (q : Received) (ch : Fin 8) (row : ChanRow) (ps : Nat),
    s.delivery t p = some (.meterReading, q, s1) → s1.chanOf q.frame.id.source.toNat = some ch →
    s1.fuel.channels.get ch = some row → row.kind = .transfer → (s1.fuel.recs.get ch).prevSupply = some ps →
    let rep := meterReport q.frame.data
    let old := s1.fuel.recs.get ch
    let ds := (rep.supply + 65536 - ps) % 65536
    ds ≤ row.cap → ds * row.supplyPulse ≤ 10000000 →
    let n := massProduct ds row.supplyPulse (s1.densityFor ch row).1 (s1.densityFor ch row).2 rep.supplyTemp old.supplyRem
    let m := n / 100000000000
    let based := { old with
      prevSupply := some rep.supply, lastReading := some q.arrival, timer := some (q.arrival + row.timeout),
      supplyRem := n % 100000000000 }
    let metered := s1.transfers.active.any (fun x => x.channel == ch && x.state.metered)
    (metered = false →
      Becomes (.meterReading t p) s s1 (s1.putChan ch { based with
        unassigned := if old.unassigned < 4294967295 then old.unassigned + 1 else old.unassigned
        unassignedMass := old.unassignedMass + m }) [.unassignedFlow]
        fun u => QueuesNothing s1 u ∧ Raised s1 u .unassignedFlow (some ch.val))
    ∧ ∀ x, s1.transfers.active = some x → x.channel = ch → s1.mgmt.mode ≠ .passThrough →
      (x.state = .starting ∨ x.state = .running ∨ x.state = .suspending ∨ x.state = .stopping) →
      let moved := (s1.putChan ch based).moveFuel x.source x.dest m
      let full := (s1.fuel.tanks.get x.dest).any (fun tank => decide
        ((((tank.capacity - tank.fullMargin) * 1000000 : Nat) : Int) ≤ (moved.acct x.dest).content))
      let cause : Option CloseCode := if x.state = .stopping then none
        else if x.amount * 1000000 ≤ x.moved + m then some .complete
        else if full = true then some .destFull else none
      let driven := x.state = .starting ∨ x.state = .running
      let x1 := { x with moved := x.moved + m }
      let y : Xfer := match cause with
        | none => x1
        | some code =>
          if x.state = .suspending then { x1 with state := .stopping, code := some code }
          else { x1 with
            state := .stopping, code := some code, pumpStopped := false, startTimer := none,
            stopTimer := some (s1.now + 10000), repeatTimer := some (s1.now + 1000) }
      let ends := y.pumpStopped = true ∧ ds = 0 ∧ (y.state = .suspending ∨ y.state = .stopping)
      let closes := ends ∧ y.state = .stopping
      Answers (exec (.meterReading t p) s) fun u =>
        u.now = s1.now ∧ FlagsKept s1 u [.tankOverdrawn, .tankReserve, .transferClosed] ∧ u.fuel = moved.fuel
        ∧ u.lessDrive = ({ s1 with fuel := u.fuel, transfers := u.transfers }).lessDrive
        ∧ (¬ closes → u.flag .transferClosed = s1.flag .transferClosed)
        ∧ (¬ ends → u.transfers = { s1.transfers with active := some y })
        ∧ (ends → y.state = .suspending → u.transfers = { s1.transfers with active := some { y with
            state := .suspended, stopTimer := none, repeatTimer := none } })
        ∧ (closes → ClosesActive moved u (y.closedAs .cancelled))
        ∧ (driven → cause ≠ none → (s1.port x.pumpPort).egress.length ≤ 16 →
            s1.pumpFrame x true ∈ (u.port x.pumpPort).egress)
        ∧ ((∀ k tank, (k = x.source ∨ k = x.dest) → s1.fuel.tanks.get k = some tank → tank.kind ≠ .feed) →
            (driven → cause ≠ none → Queues s1 u x.pumpPort (s1.pumpFrame x true))
            ∧ (¬ (driven ∧ cause ≠ none) → ¬ (closes ∧ s1.transfers.waiting ≠ none) → QueuesNothing s1 u))

/-- R147, R148, R150: PUMP_STATUS from the pump of the ACTIVE record. RUNNING takes STARTING to RUNNING; a fault in
STARTING, and a fault or STOPPED in RUNNING, stop the transfer with PUMP_FAULT, STOPPED in RUNNING also setting the
pump-stopped flag; in SUSPENDING and STOPPING the flag follows the pump, and a fault takes SUSPENDING to STOPPING; a
fault in SUSPENDED closes the record with PUMP_FAULT, and a PENDING record is started or closed REFUSED_AT_START
(R145, R146). A frame from any other node has no effect. The model's choices: a fault in STARTING leaves the flag
clear whatever else the report says (assumption log 44), and a report without a fault in SUSPENDED leaves the flag as
it stands (assumption log 54). -/
def Obligations.PumpStatusDrivesTheActiveRecord : Prop :=
  ∀ (t : Nat) (p : Port) (s s1 : State) (q : Received), s.delivery t p = some (.pumpStatus, q, s1) →
    let running := bitOf q.frame.data 0 0
    let fault := bitOf q.frame.data 0 1
    let c : Instr := .pumpStatus t p
    ((∀ x, s1.transfers.active = some x → x.pumpNode ≠ q.frame.id.source.toNat) →
      Becomes c s s1 s1 [] (QueuesNothing s1))
    ∧ ∀ x, s1.transfers.active = some x → x.pumpNode = q.frame.id.source.toNat → s1.mgmt.mode ≠ .passThrough →
      let stops : Bool → State → Prop := fun flag w => w = s1.putActive (some { x with
        state := .stopping, code := some .pumpFault, pumpStopped := flag, startTimer := none,
        stopTimer := some (s1.now + 10000), repeatTimer := some (s1.now + 1000) })
      (x.state = .starting → fault = false → running = true →
        Becomes c s s1 (s1.putActive (some { x with state := .running, startTimer := none })) [] (QueuesNothing s1))
      ∧ (x.state = .starting → fault = false → running = false → Becomes c s s1 s1 [] (QueuesNothing s1))
      ∧ (∀ w, x.state = .starting → fault = true → stops false w →
          Becomes c s s1 w [] fun u => Queues s1 u x.pumpPort (s1.pumpFrame x true))
      ∧ (x.state = .running → fault = false → running = true → Becomes c s s1 s1 [] (QueuesNothing s1))
      ∧ (∀ w, x.state = .running → (fault = true ∨ running = false) → stops (!running) w →
          Becomes c s s1 w [] fun u => Queues s1 u x.pumpPort (s1.pumpFrame x true))
      ∧ (x.state = .suspending →
          Becomes c s s1 (s1.putActive (some { x with
            pumpStopped := !running, state := if fault = true then .stopping else .suspending
            code := if fault = true then some .pumpFault else x.code })) [] (QueuesNothing s1))
      ∧ (x.state = .stopping →
          Becomes c s s1 (s1.putActive (some { x with pumpStopped := !running })) [] (QueuesNothing s1))
      ∧ (x.state = .suspended → fault = false → Becomes c s s1 s1 [] (QueuesNothing s1))
      ∧ (x.state = .suspended → fault = true →
          Answers (exec c s) fun u =>
            u.now = s1.now ∧ FlagsKept s1 u [.transferClosed] ∧ u.quiet = ({ s1 with transfers := u.transfers }).quiet
            ∧ ClosesActive s1 u (x.closedAs .pumpFault)
            ∧ ((∀ y, s1.transfers.waiting = some y → ¬ s1.promotes y) → QueuesNothing s1 u)
            ∧ ∀ y, s1.transfers.waiting = some y → s1.promotes y → Queues s1 u y.pumpPort (s1.pumpFrame y false))

/-- R148, R150, R151, R145, R146: the start timer stops a STARTING transfer with PUMP_FAULT; the stop timer ends
SUSPENDING in SUSPENDED and STOPPING in the close with the code it carries, after which a PENDING record is started or
closed REFUSED_AT_START; the repeat timer queues the record's order again and runs 1,000 ms from then. R140, R150: the
meter timer of a loaded channel counts a silence, raises METER_LOST and stops; a RUNNING transfer metered by the channel
goes to STOPPING with METER_LOST and one stop order. -/
def Obligations.TransferAndMeterTimersStopAndClose : Prop :=
  (∀ (t : Nat) (s : State) (x : Xfer) (e : Nat), s.held = false → s.transfers.active = some x →
      s.mgmt.mode ≠ .passThrough → e ≤ (s.at t).now →
      let s1 := s.at t
      let closed : Xfer := { x with
        state := .closed, code := some (x.code.getD .cancelled), startTimer := none, stopTimer := none,
        repeatTimer := none }
      (x.state = .starting → x.startTimer = some e →
        Becomes (.transferStartTimeout t) s s1
          (s.putActive (some { x with
            state := .stopping, code := some .pumpFault, pumpStopped := false, startTimer := none,
            stopTimer := some (s1.now + 10000), repeatTimer := some (s1.now + 1000) })) []
          fun u => Queues s1 u x.pumpPort (s1.pumpFrame x true))
      ∧ (x.state = .suspending → x.stopTimer = some e →
          Becomes (.transferStopTimeout t) s s1
            (s.putActive (some { x with state := .suspended, stopTimer := none, repeatTimer := none })) []
            (QueuesNothing s1))
      ∧ (x.state = .stopping → x.stopTimer = some e → s.transfers.waiting = none →
          Becomes (.transferStopTimeout t) s s1
            { s with transfers := { s.transfers with active := none, lastClosed := some closed } } [.transferClosed]
            fun u => QueuesNothing s1 u ∧ Raised s1 u .transferClosed (some x.number))
      ∧ (∀ y, x.state = .stopping → x.stopTimer = some e → s.transfers.waiting = some y →
          let passes := s.xferInRange y.source y.dest y.amount y.pumpNode y.channel = true
            ∧ s.xferRefusal y.source y.dest y.amount = none
          Answers (exec (.transferStopTimeout t) s) fun u =>
            FlagsKept s1 u [.transferClosed] ∧ (u.flag .transferClosed).isSet = true
            ∧ u.quiet = ({ s with transfers := { u.transfers with
                nextNumber := s.transfers.nextNumber, soundings := s.transfers.soundings } }).quiet
            ∧ u.transfers.waiting = none
            ∧ (passes → u.transfers.lastClosed = some closed ∧ Queues s1 u y.pumpPort (s1.pumpFrame y false)
                ∧ u.transfers.active = some { y with
                    state := .starting, pumpStopped := false, startTimer := some (s1.now + 10000), stopTimer := none,
                    repeatTimer := some (s1.now + 1000) })
            ∧ (¬ passes → u.transfers.active = none ∧ u.transfers.lastClosed = some { y with
                state := .closed, code := some (y.code.getD .refusedAtStart), startTimer := none, stopTimer := none,
                repeatTimer := none }))
      ∧ (∀ stop : Bool, (stop = false ∧ (x.state = .starting ∨ x.state = .running)
            ∨ stop = true ∧ (x.state = .suspending ∨ x.state = .stopping)) → x.repeatTimer = some e →
          Becomes (.transferRepeatExpiry t) s s1
            (s.putActive (some { x with repeatTimer := some (s1.now + 1000) })) []
            fun u => Queues s1 u x.pumpPort (s1.pumpFrame x stop)))
  ∧ (∀ (t : Nat) (ch : Fin 8) (row : ChanRow) (s : State) (e : Nat), s.held = false →
      s.fuel.channels.get ch = some row → (s.fuel.recs.get ch).timer = some e → e ≤ (s.at t).now →
      let s1 := s.at t
      let r := s.fuel.recs.get ch
      let w := s.putChan ch { r with lost := if r.lost < 4294967295 then r.lost + 1 else r.lost, timer := none }
      ((∀ x, s.transfers.active = some x → x.channel ≠ ch ∨ x.state ≠ .running) →
        Becomes (.meterTimerExpiry t ch) s s1 w [.meterLost] fun u =>
          QueuesNothing s1 u ∧ Raised s1 u .meterLost (some ch.val))
      ∧ (∀ x, s.transfers.active = some x → x.channel = ch → x.state = .running → s.mgmt.mode ≠ .passThrough →
          Becomes (.meterTimerExpiry t ch) s s1
            (w.putActive (some { x with
              state := .stopping, code := some .meterLost, pumpStopped := false, startTimer := none,
              stopTimer := some (s1.now + 10000), repeatTimer := some (s1.now + 1000) })) [.meterLost]
            fun u => Queues s1 u x.pumpPort (s1.pumpFrame x true) ∧ Raised s1 u .meterLost (some ch.val)))

/-! ## Laws of the device, kept by every step -/

/-- R14, R26: every step keeps every ingress queue within 32 frames and every egress queue within 48. R19: every step
keeps the route table in strictly ascending key order, within 128 entries, with sources of 1 to 126. -/
def Obligations.EveryStepKeepsTheQueuesAndTheRouteTable : Prop :=
  (∀ s u : State, QueueLaw s → step s = .next u → QueueLaw u)
  ∧ (∀ s u : State, RouteLaw s → step s = .next u → RouteLaw u)

/-- R123: every step keeps the release lock of every RELEASED coupling set. R124: every step keeps a FACE or ASSIST
coupling out of RELEASING while a lane of the boat it bears is active. -/
def Obligations.EveryStepKeepsReleasedCouplingsSafe : Prop :=
  (∀ s u : State, LockLaw s → step s = .next u → LockLaw u)
  ∧ (∀ s u : State, ReleaseLaw s → step s = .next u → ReleaseLaw u)

/-- R143: every step keeps the slots of the transfer controller in order. R150: every step keeps a transfer with a BARGE
end out of STARTING and RUNNING unless that hose is MADE_FAST. -/
def Obligations.EveryStepKeepsTransfersOnFastHoses : Prop :=
  (∀ s u : State, SlotLaw s → step s = .next u → SlotLaw u)
  ∧ (∀ s u : State, SlotLaw s → HoseLaw s → step s = .next u → HoseLaw u)

/-- R64: every step keeps the setpoint at 0 or at idle speed in the states that call for it. -/
def Obligations.EveryStepKeepsTheSetpointLaw : Prop := ∀ s u : State, SetpointLaw s → step s = .next u → SetpointLaw u

/-- R162: outside COORDINATING no step of the part queues a GOVERNOR_ORDER or STEER_ORDER of its own, and in PASS_THROUGH
no WINCH_ORDER and, the slots of the transfer controller being in order, no PUMP_ORDER of its own. -/
def Obligations.NoOrdersOutsideTheirModes : Prop :=
  ∀ (s u : State), s.node < 128 → step s = .next u → ∀ (p : Port) (f : CmsFrame), f ∈ (u.port p).egress →
    f.id.source = BitVec.ofNat 7 s.node →
    ((f.id.kind = MsgKind.governorOrder.number ∨ f.id.kind = MsgKind.steerOrder.number) → s.mgmt.mode ≠ .coordinating →
      f ∈ (s.port p).egress)
    ∧ (f.id.kind = MsgKind.winchOrder.number → s.mgmt.mode = .passThrough → f ∈ (s.port p).egress)
    ∧ (f.id.kind = MsgKind.pumpOrder.number → s.mgmt.mode = .passThrough → SlotLaw s → f ∈ (s.port p).egress)

/-- The laws hold right after power-on reset, and nothing is due then. -/
def Obligations.ResetKeepsEveryLaw : Prop :=
  QueueLaw State.reset ∧ RouteLaw State.reset ∧ LockLaw State.reset ∧ ReleaseLaw State.reset ∧ SlotLaw State.reset
  ∧ HoseLaw State.reset ∧ SetpointLaw State.reset ∧ NothingDue State.reset
end

