-- ==== Sys2Proof/Laws/State.lean ====
section
/-!
SUPPORT. One lemma per field per update of the state, so that no later proof unfolds a record update, and the laws of the
indexed records.
-/

namespace Sys2Proof.Machine

@[simp] theorem State.at_held (t : Nat) (s : State) : (s.at t).held = s.held := rfl
@[simp] theorem State.at_lineAsserted (t : Nat) (s : State) : (s.at t).lineAsserted = s.lineAsserted := rfl
@[simp] theorem State.at_supplyLow (t : Nat) (s : State) : (s.at t).supplyLow = s.supplyLow := rfl
@[simp] theorem State.at_straps (t : Nat) (s : State) : (s.at t).straps = s.straps := rfl
@[simp] theorem State.at_node (t : Nat) (s : State) : (s.at t).node = s.node := rfl
@[simp] theorem State.at_switch (t : Nat) (s : State) : (s.at t).switch = s.switch := rfl
@[simp] theorem State.at_intake (t : Nat) (s : State) : (s.at t).intake = s.intake := rfl
@[simp] theorem State.at_lanes (t : Nat) (s : State) : (s.at t).lanes = s.lanes := rfl
@[simp] theorem State.at_groups (t : Nat) (s : State) : (s.at t).groups = s.groups := rfl
@[simp] theorem State.at_steering (t : Nat) (s : State) : (s.at t).steering = s.steering := rfl
@[simp] theorem State.at_couplings (t : Nat) (s : State) : (s.at t).couplings = s.couplings := rfl
@[simp] theorem State.at_fuel (t : Nat) (s : State) : (s.at t).fuel = s.fuel := rfl
@[simp] theorem State.at_transfers (t : Nat) (s : State) : (s.at t).transfers = s.transfers := rfl
@[simp] theorem State.at_mgmt (t : Nat) (s : State) : (s.at t).mgmt = s.mgmt := rfl
@[simp] theorem State.at_due (t : Nat) (s : State) : (s.at t).due = s.due := rfl
@[simp] theorem State.at_pending (t : Nat) (s : State) : (s.at t).pending = s.pending := rfl

theorem State.held_eq_false {s : State} : s.held = false ↔ s.lineAsserted = false ∧ s.supplyLow = false := by
  simp [State.held]

theorem State.held_eq_true {s : State} : s.held = true ↔ s.lineAsserted = true ∨ s.supplyLow = true := by
  simp [State.held]

/-- All that the end of a cause of the hold can do: nothing, the end of that cause alone, or power-on reset. -/
theorem State.endHold_cases (cause : HoldEnd) (s : State) : ∃ straps,
    (s.endHold cause = s ∧ cause = .lineReleased straps ∧ s.lineAsserted = false)
    ∨ (s.endHold cause = { s with lineAsserted := false } ∧ cause = .lineReleased straps ∧ s.lineAsserted = true
        ∧ s.supplyLow = true)
    ∨ (s.endHold cause = { s with supplyLow := false } ∧ cause = .supplyRises straps ∧ s.lineAsserted = true)
    ∨ (s.endHold cause = s.powerOn straps
        ∧ (cause = .lineReleased straps ∧ s.lineAsserted = true ∧ s.supplyLow = false
          ∨ cause = .supplyRises straps ∧ s.lineAsserted = false)) := by
  cases cause with
  | lineReleased straps =>
    exact ⟨straps, by cases hl : s.lineAsserted <;> cases hs : s.supplyLow <;> simp [State.endHold, hl, hs]⟩
  | supplyRises straps => exact ⟨straps, by cases hl : s.lineAsserted <;> simp [State.endHold, hl]⟩

/-- All that a cause of the hold can do: nothing, for a shorter assertion, or power-on values under that cause and any that
held the part before. -/
theorem State.holdInReset_cases (cause : HoldCause) (s : State) :
    (s.holdInReset cause = s ∧ ∃ ms, ms < 10 ∧ cause = .line ms)
    ∨ (s.holdInReset cause = { s.powerOn s.straps with lineAsserted := true, supplyLow := s.supplyLow }
        ∧ ∃ ms, 10 ≤ ms ∧ cause = .line ms)
    ∨ (s.holdInReset cause = { s.powerOn s.straps with lineAsserted := s.lineAsserted, supplyLow := true }
        ∧ cause = .supplyBelow15V) := by
  cases cause with
  | line ms =>
    by_cases h : 10 ≤ ms
    · exact .inr (.inl ⟨by simp [State.holdInReset, h], ms, h, rfl⟩)
    · exact .inl ⟨by simp [State.holdInReset, h], ms, by omega, rfl⟩
  | supplyBelow15V => simp [State.holdInReset]

@[simp] theorem State.latch_now (e : Event) (d : Option Nat) (s : State) : (s.latch e d).now = s.now := rfl
@[simp] theorem State.latch_held (e : Event) (d : Option Nat) (s : State) : (s.latch e d).held = s.held := rfl
@[simp] theorem State.latch_lineAsserted (e : Event) (d : Option Nat) (s : State) : (s.latch e d).lineAsserted = s.lineAsserted := rfl
@[simp] theorem State.latch_supplyLow (e : Event) (d : Option Nat) (s : State) : (s.latch e d).supplyLow = s.supplyLow := rfl
@[simp] theorem State.latch_straps (e : Event) (d : Option Nat) (s : State) : (s.latch e d).straps = s.straps := rfl
@[simp] theorem State.latch_node (e : Event) (d : Option Nat) (s : State) : (s.latch e d).node = s.node := rfl
@[simp] theorem State.latch_switch (e : Event) (d : Option Nat) (s : State) : (s.latch e d).switch = s.switch := rfl
@[simp] theorem State.latch_intake (e : Event) (d : Option Nat) (s : State) : (s.latch e d).intake = s.intake := rfl
@[simp] theorem State.latch_lanes (e : Event) (d : Option Nat) (s : State) : (s.latch e d).lanes = s.lanes := rfl
@[simp] theorem State.latch_groups (e : Event) (d : Option Nat) (s : State) : (s.latch e d).groups = s.groups := rfl
@[simp] theorem State.latch_steering (e : Event) (d : Option Nat) (s : State) : (s.latch e d).steering = s.steering := rfl
@[simp] theorem State.latch_couplings (e : Event) (d : Option Nat) (s : State) : (s.latch e d).couplings = s.couplings := rfl
@[simp] theorem State.latch_fuel (e : Event) (d : Option Nat) (s : State) : (s.latch e d).fuel = s.fuel := rfl
@[simp] theorem State.latch_transfers (e : Event) (d : Option Nat) (s : State) : (s.latch e d).transfers = s.transfers := rfl
@[simp] theorem State.latch_due (e : Event) (d : Option Nat) (s : State) : (s.latch e d).due = s.due := rfl
@[simp] theorem State.latch_pending (e : Event) (d : Option Nat) (s : State) : (s.latch e d).pending = s.pending := rfl

@[simp] theorem State.dueLane_now (l : Fin 4) (s : State) : (s.dueLane l).now = s.now := rfl
@[simp] theorem State.dueLane_held (l : Fin 4) (s : State) : (s.dueLane l).held = s.held := rfl
@[simp] theorem State.dueLane_lineAsserted (l : Fin 4) (s : State) : (s.dueLane l).lineAsserted = s.lineAsserted := rfl
@[simp] theorem State.dueLane_supplyLow (l : Fin 4) (s : State) : (s.dueLane l).supplyLow = s.supplyLow := rfl
@[simp] theorem State.dueLane_straps (l : Fin 4) (s : State) : (s.dueLane l).straps = s.straps := rfl
@[simp] theorem State.dueLane_node (l : Fin 4) (s : State) : (s.dueLane l).node = s.node := rfl
@[simp] theorem State.dueLane_switch (l : Fin 4) (s : State) : (s.dueLane l).switch = s.switch := rfl
@[simp] theorem State.dueLane_intake (l : Fin 4) (s : State) : (s.dueLane l).intake = s.intake := rfl
@[simp] theorem State.dueLane_lanes (l : Fin 4) (s : State) : (s.dueLane l).lanes = s.lanes := rfl
@[simp] theorem State.dueLane_groups (l : Fin 4) (s : State) : (s.dueLane l).groups = s.groups := rfl
@[simp] theorem State.dueLane_steering (l : Fin 4) (s : State) : (s.dueLane l).steering = s.steering := rfl
@[simp] theorem State.dueLane_couplings (l : Fin 4) (s : State) : (s.dueLane l).couplings = s.couplings := rfl
@[simp] theorem State.dueLane_fuel (l : Fin 4) (s : State) : (s.dueLane l).fuel = s.fuel := rfl
@[simp] theorem State.dueLane_transfers (l : Fin 4) (s : State) : (s.dueLane l).transfers = s.transfers := rfl
@[simp] theorem State.dueLane_mgmt (l : Fin 4) (s : State) : (s.dueLane l).mgmt = s.mgmt := rfl
@[simp] theorem State.dueLane_pending (l : Fin 4) (s : State) : (s.dueLane l).pending = s.pending := rfl

@[simp] theorem State.dueHelm_now (s : State) : (s.dueHelm).now = s.now := rfl
@[simp] theorem State.dueHelm_held (s : State) : (s.dueHelm).held = s.held := rfl
@[simp] theorem State.dueHelm_lineAsserted (s : State) : (s.dueHelm).lineAsserted = s.lineAsserted := rfl
@[simp] theorem State.dueHelm_supplyLow (s : State) : (s.dueHelm).supplyLow = s.supplyLow := rfl
@[simp] theorem State.dueHelm_straps (s : State) : (s.dueHelm).straps = s.straps := rfl
@[simp] theorem State.dueHelm_node (s : State) : (s.dueHelm).node = s.node := rfl
@[simp] theorem State.dueHelm_switch (s : State) : (s.dueHelm).switch = s.switch := rfl
@[simp] theorem State.dueHelm_intake (s : State) : (s.dueHelm).intake = s.intake := rfl
@[simp] theorem State.dueHelm_lanes (s : State) : (s.dueHelm).lanes = s.lanes := rfl
@[simp] theorem State.dueHelm_groups (s : State) : (s.dueHelm).groups = s.groups := rfl
@[simp] theorem State.dueHelm_steering (s : State) : (s.dueHelm).steering = s.steering := rfl
@[simp] theorem State.dueHelm_couplings (s : State) : (s.dueHelm).couplings = s.couplings := rfl
@[simp] theorem State.dueHelm_fuel (s : State) : (s.dueHelm).fuel = s.fuel := rfl
@[simp] theorem State.dueHelm_transfers (s : State) : (s.dueHelm).transfers = s.transfers := rfl
@[simp] theorem State.dueHelm_mgmt (s : State) : (s.dueHelm).mgmt = s.mgmt := rfl
@[simp] theorem State.dueHelm_pending (s : State) : (s.dueHelm).pending = s.pending := rfl

@[simp] theorem State.dueCoupling_now (c : Fin 32) (s : State) : (s.dueCoupling c).now = s.now := rfl
@[simp] theorem State.dueCoupling_held (c : Fin 32) (s : State) : (s.dueCoupling c).held = s.held := rfl
@[simp] theorem State.dueCoupling_lineAsserted (c : Fin 32) (s : State) : (s.dueCoupling c).lineAsserted = s.lineAsserted := rfl
@[simp] theorem State.dueCoupling_supplyLow (c : Fin 32) (s : State) : (s.dueCoupling c).supplyLow = s.supplyLow := rfl
@[simp] theorem State.dueCoupling_straps (c : Fin 32) (s : State) : (s.dueCoupling c).straps = s.straps := rfl
@[simp] theorem State.dueCoupling_node (c : Fin 32) (s : State) : (s.dueCoupling c).node = s.node := rfl
@[simp] theorem State.dueCoupling_switch (c : Fin 32) (s : State) : (s.dueCoupling c).switch = s.switch := rfl
@[simp] theorem State.dueCoupling_intake (c : Fin 32) (s : State) : (s.dueCoupling c).intake = s.intake := rfl
@[simp] theorem State.dueCoupling_lanes (c : Fin 32) (s : State) : (s.dueCoupling c).lanes = s.lanes := rfl
@[simp] theorem State.dueCoupling_groups (c : Fin 32) (s : State) : (s.dueCoupling c).groups = s.groups := rfl
@[simp] theorem State.dueCoupling_steering (c : Fin 32) (s : State) : (s.dueCoupling c).steering = s.steering := rfl
@[simp] theorem State.dueCoupling_couplings (c : Fin 32) (s : State) : (s.dueCoupling c).couplings = s.couplings := rfl
@[simp] theorem State.dueCoupling_fuel (c : Fin 32) (s : State) : (s.dueCoupling c).fuel = s.fuel := rfl
@[simp] theorem State.dueCoupling_transfers (c : Fin 32) (s : State) : (s.dueCoupling c).transfers = s.transfers := rfl
@[simp] theorem State.dueCoupling_mgmt (c : Fin 32) (s : State) : (s.dueCoupling c).mgmt = s.mgmt := rfl
@[simp] theorem State.dueCoupling_pending (c : Fin 32) (s : State) : (s.dueCoupling c).pending = s.pending := rfl

@[simp] theorem State.dueCommand_now (s : State) : (s.dueCommand).now = s.now := rfl
@[simp] theorem State.dueCommand_held (s : State) : (s.dueCommand).held = s.held := rfl
@[simp] theorem State.dueCommand_lineAsserted (s : State) : (s.dueCommand).lineAsserted = s.lineAsserted := rfl
@[simp] theorem State.dueCommand_supplyLow (s : State) : (s.dueCommand).supplyLow = s.supplyLow := rfl
@[simp] theorem State.dueCommand_straps (s : State) : (s.dueCommand).straps = s.straps := rfl
@[simp] theorem State.dueCommand_node (s : State) : (s.dueCommand).node = s.node := rfl
@[simp] theorem State.dueCommand_switch (s : State) : (s.dueCommand).switch = s.switch := rfl
@[simp] theorem State.dueCommand_intake (s : State) : (s.dueCommand).intake = s.intake := rfl
@[simp] theorem State.dueCommand_lanes (s : State) : (s.dueCommand).lanes = s.lanes := rfl
@[simp] theorem State.dueCommand_groups (s : State) : (s.dueCommand).groups = s.groups := rfl
@[simp] theorem State.dueCommand_steering (s : State) : (s.dueCommand).steering = s.steering := rfl
@[simp] theorem State.dueCommand_couplings (s : State) : (s.dueCommand).couplings = s.couplings := rfl
@[simp] theorem State.dueCommand_fuel (s : State) : (s.dueCommand).fuel = s.fuel := rfl
@[simp] theorem State.dueCommand_transfers (s : State) : (s.dueCommand).transfers = s.transfers := rfl
@[simp] theorem State.dueCommand_mgmt (s : State) : (s.dueCommand).mgmt = s.mgmt := rfl
@[simp] theorem State.dueCommand_pending (s : State) : (s.dueCommand).pending = s.pending := rfl

@[simp] theorem State.putGroup_now (g : Fin 2) (r : GroupRec) (s : State) : (s.putGroup g r).now = s.now := rfl
@[simp] theorem State.putGroup_held (g : Fin 2) (r : GroupRec) (s : State) : (s.putGroup g r).held = s.held := rfl
@[simp] theorem State.putGroup_lineAsserted (g : Fin 2) (r : GroupRec) (s : State) : (s.putGroup g r).lineAsserted = s.lineAsserted := rfl
@[simp] theorem State.putGroup_supplyLow (g : Fin 2) (r : GroupRec) (s : State) : (s.putGroup g r).supplyLow = s.supplyLow := rfl
@[simp] theorem State.putGroup_straps (g : Fin 2) (r : GroupRec) (s : State) : (s.putGroup g r).straps = s.straps := rfl
@[simp] theorem State.putGroup_node (g : Fin 2) (r : GroupRec) (s : State) : (s.putGroup g r).node = s.node := rfl
@[simp] theorem State.putGroup_switch (g : Fin 2) (r : GroupRec) (s : State) : (s.putGroup g r).switch = s.switch := rfl
@[simp] theorem State.putGroup_intake (g : Fin 2) (r : GroupRec) (s : State) : (s.putGroup g r).intake = s.intake := rfl
@[simp] theorem State.putGroup_lanes (g : Fin 2) (r : GroupRec) (s : State) : (s.putGroup g r).lanes = s.lanes := rfl
@[simp] theorem State.putGroup_steering (g : Fin 2) (r : GroupRec) (s : State) : (s.putGroup g r).steering = s.steering := rfl
@[simp] theorem State.putGroup_couplings (g : Fin 2) (r : GroupRec) (s : State) : (s.putGroup g r).couplings = s.couplings := rfl
@[simp] theorem State.putGroup_fuel (g : Fin 2) (r : GroupRec) (s : State) : (s.putGroup g r).fuel = s.fuel := rfl
@[simp] theorem State.putGroup_transfers (g : Fin 2) (r : GroupRec) (s : State) : (s.putGroup g r).transfers = s.transfers := rfl
@[simp] theorem State.putGroup_mgmt (g : Fin 2) (r : GroupRec) (s : State) : (s.putGroup g r).mgmt = s.mgmt := rfl
@[simp] theorem State.putGroup_due (g : Fin 2) (r : GroupRec) (s : State) : (s.putGroup g r).due = s.due := rfl
@[simp] theorem State.putGroup_pending (g : Fin 2) (r : GroupRec) (s : State) : (s.putGroup g r).pending = s.pending := rfl

@[simp] theorem State.putAcct_now (k : Fin 16) (a : TankAcct) (s : State) : (s.putAcct k a).now = s.now := rfl
@[simp] theorem State.putAcct_held (k : Fin 16) (a : TankAcct) (s : State) : (s.putAcct k a).held = s.held := rfl
@[simp] theorem State.putAcct_lineAsserted (k : Fin 16) (a : TankAcct) (s : State) : (s.putAcct k a).lineAsserted = s.lineAsserted := rfl
@[simp] theorem State.putAcct_supplyLow (k : Fin 16) (a : TankAcct) (s : State) : (s.putAcct k a).supplyLow = s.supplyLow := rfl
@[simp] theorem State.putAcct_straps (k : Fin 16) (a : TankAcct) (s : State) : (s.putAcct k a).straps = s.straps := rfl
@[simp] theorem State.putAcct_node (k : Fin 16) (a : TankAcct) (s : State) : (s.putAcct k a).node = s.node := rfl
@[simp] theorem State.putAcct_switch (k : Fin 16) (a : TankAcct) (s : State) : (s.putAcct k a).switch = s.switch := rfl
@[simp] theorem State.putAcct_intake (k : Fin 16) (a : TankAcct) (s : State) : (s.putAcct k a).intake = s.intake := rfl
@[simp] theorem State.putAcct_lanes (k : Fin 16) (a : TankAcct) (s : State) : (s.putAcct k a).lanes = s.lanes := rfl
@[simp] theorem State.putAcct_groups (k : Fin 16) (a : TankAcct) (s : State) : (s.putAcct k a).groups = s.groups := rfl
@[simp] theorem State.putAcct_steering (k : Fin 16) (a : TankAcct) (s : State) : (s.putAcct k a).steering = s.steering := rfl
@[simp] theorem State.putAcct_couplings (k : Fin 16) (a : TankAcct) (s : State) : (s.putAcct k a).couplings = s.couplings := rfl
@[simp] theorem State.putAcct_transfers (k : Fin 16) (a : TankAcct) (s : State) : (s.putAcct k a).transfers = s.transfers := rfl
@[simp] theorem State.putAcct_mgmt (k : Fin 16) (a : TankAcct) (s : State) : (s.putAcct k a).mgmt = s.mgmt := rfl
@[simp] theorem State.putAcct_due (k : Fin 16) (a : TankAcct) (s : State) : (s.putAcct k a).due = s.due := rfl
@[simp] theorem State.putAcct_pending (k : Fin 16) (a : TankAcct) (s : State) : (s.putAcct k a).pending = s.pending := rfl

@[simp] theorem State.putChan_now (ch : Fin 8) (r : ChanRec) (s : State) : (s.putChan ch r).now = s.now := rfl
@[simp] theorem State.putChan_held (ch : Fin 8) (r : ChanRec) (s : State) : (s.putChan ch r).held = s.held := rfl
@[simp] theorem State.putChan_lineAsserted (ch : Fin 8) (r : ChanRec) (s : State) : (s.putChan ch r).lineAsserted = s.lineAsserted := rfl
@[simp] theorem State.putChan_supplyLow (ch : Fin 8) (r : ChanRec) (s : State) : (s.putChan ch r).supplyLow = s.supplyLow := rfl
@[simp] theorem State.putChan_straps (ch : Fin 8) (r : ChanRec) (s : State) : (s.putChan ch r).straps = s.straps := rfl
@[simp] theorem State.putChan_node (ch : Fin 8) (r : ChanRec) (s : State) : (s.putChan ch r).node = s.node := rfl
@[simp] theorem State.putChan_switch (ch : Fin 8) (r : ChanRec) (s : State) : (s.putChan ch r).switch = s.switch := rfl
@[simp] theorem State.putChan_intake (ch : Fin 8) (r : ChanRec) (s : State) : (s.putChan ch r).intake = s.intake := rfl
@[simp] theorem State.putChan_lanes (ch : Fin 8) (r : ChanRec) (s : State) : (s.putChan ch r).lanes = s.lanes := rfl
@[simp] theorem State.putChan_groups (ch : Fin 8) (r : ChanRec) (s : State) : (s.putChan ch r).groups = s.groups := rfl
@[simp] theorem State.putChan_steering (ch : Fin 8) (r : ChanRec) (s : State) : (s.putChan ch r).steering = s.steering := rfl
@[simp] theorem State.putChan_couplings (ch : Fin 8) (r : ChanRec) (s : State) : (s.putChan ch r).couplings = s.couplings := rfl
@[simp] theorem State.putChan_transfers (ch : Fin 8) (r : ChanRec) (s : State) : (s.putChan ch r).transfers = s.transfers := rfl
@[simp] theorem State.putChan_mgmt (ch : Fin 8) (r : ChanRec) (s : State) : (s.putChan ch r).mgmt = s.mgmt := rfl
@[simp] theorem State.putChan_due (ch : Fin 8) (r : ChanRec) (s : State) : (s.putChan ch r).due = s.due := rfl
@[simp] theorem State.putChan_pending (ch : Fin 8) (r : ChanRec) (s : State) : (s.putChan ch r).pending = s.pending := rfl

@[simp] theorem State.putActive_now (x : Option Xfer) (s : State) : (s.putActive x).now = s.now := rfl
@[simp] theorem State.putActive_held (x : Option Xfer) (s : State) : (s.putActive x).held = s.held := rfl
@[simp] theorem State.putActive_lineAsserted (x : Option Xfer) (s : State) : (s.putActive x).lineAsserted = s.lineAsserted := rfl
@[simp] theorem State.putActive_supplyLow (x : Option Xfer) (s : State) : (s.putActive x).supplyLow = s.supplyLow := rfl
@[simp] theorem State.putActive_straps (x : Option Xfer) (s : State) : (s.putActive x).straps = s.straps := rfl
@[simp] theorem State.putActive_node (x : Option Xfer) (s : State) : (s.putActive x).node = s.node := rfl
@[simp] theorem State.putActive_switch (x : Option Xfer) (s : State) : (s.putActive x).switch = s.switch := rfl
@[simp] theorem State.putActive_intake (x : Option Xfer) (s : State) : (s.putActive x).intake = s.intake := rfl
@[simp] theorem State.putActive_lanes (x : Option Xfer) (s : State) : (s.putActive x).lanes = s.lanes := rfl
@[simp] theorem State.putActive_groups (x : Option Xfer) (s : State) : (s.putActive x).groups = s.groups := rfl
@[simp] theorem State.putActive_steering (x : Option Xfer) (s : State) : (s.putActive x).steering = s.steering := rfl
@[simp] theorem State.putActive_couplings (x : Option Xfer) (s : State) : (s.putActive x).couplings = s.couplings := rfl
@[simp] theorem State.putActive_fuel (x : Option Xfer) (s : State) : (s.putActive x).fuel = s.fuel := rfl
@[simp] theorem State.putActive_mgmt (x : Option Xfer) (s : State) : (s.putActive x).mgmt = s.mgmt := rfl
@[simp] theorem State.putActive_due (x : Option Xfer) (s : State) : (s.putActive x).due = s.due := rfl
@[simp] theorem State.putActive_pending (x : Option Xfer) (s : State) : (s.putActive x).pending = s.pending := rfl

@[simp] theorem State.countRefusal_now (i : Fin 4) (s : State) : (s.countRefusal i).now = s.now := rfl
@[simp] theorem State.countRefusal_held (i : Fin 4) (s : State) : (s.countRefusal i).held = s.held := rfl
@[simp] theorem State.countRefusal_lineAsserted (i : Fin 4) (s : State) : (s.countRefusal i).lineAsserted = s.lineAsserted := rfl
@[simp] theorem State.countRefusal_supplyLow (i : Fin 4) (s : State) : (s.countRefusal i).supplyLow = s.supplyLow := rfl
@[simp] theorem State.countRefusal_straps (i : Fin 4) (s : State) : (s.countRefusal i).straps = s.straps := rfl
@[simp] theorem State.countRefusal_node (i : Fin 4) (s : State) : (s.countRefusal i).node = s.node := rfl
@[simp] theorem State.countRefusal_switch (i : Fin 4) (s : State) : (s.countRefusal i).switch = s.switch := rfl
@[simp] theorem State.countRefusal_lanes (i : Fin 4) (s : State) : (s.countRefusal i).lanes = s.lanes := rfl
@[simp] theorem State.countRefusal_groups (i : Fin 4) (s : State) : (s.countRefusal i).groups = s.groups := rfl
@[simp] theorem State.countRefusal_steering (i : Fin 4) (s : State) : (s.countRefusal i).steering = s.steering := rfl
@[simp] theorem State.countRefusal_couplings (i : Fin 4) (s : State) : (s.countRefusal i).couplings = s.couplings := rfl
@[simp] theorem State.countRefusal_fuel (i : Fin 4) (s : State) : (s.countRefusal i).fuel = s.fuel := rfl
@[simp] theorem State.countRefusal_transfers (i : Fin 4) (s : State) : (s.countRefusal i).transfers = s.transfers := rfl
@[simp] theorem State.countRefusal_mgmt (i : Fin 4) (s : State) : (s.countRefusal i).mgmt = s.mgmt := rfl
@[simp] theorem State.countRefusal_due (i : Fin 4) (s : State) : (s.countRefusal i).due = s.due := rfl
@[simp] theorem State.countRefusal_pending (i : Fin 4) (s : State) : (s.countRefusal i).pending = s.pending := rfl

@[simp] theorem State.setRoutes_now (es : List RouteEntry) (s : State) : (s.setRoutes es).now = s.now := rfl
@[simp] theorem State.setRoutes_held (es : List RouteEntry) (s : State) : (s.setRoutes es).held = s.held := rfl
@[simp] theorem State.setRoutes_lineAsserted (es : List RouteEntry) (s : State) : (s.setRoutes es).lineAsserted = s.lineAsserted := rfl
@[simp] theorem State.setRoutes_supplyLow (es : List RouteEntry) (s : State) : (s.setRoutes es).supplyLow = s.supplyLow := rfl
@[simp] theorem State.setRoutes_straps (es : List RouteEntry) (s : State) : (s.setRoutes es).straps = s.straps := rfl
@[simp] theorem State.setRoutes_node (es : List RouteEntry) (s : State) : (s.setRoutes es).node = s.node := rfl
@[simp] theorem State.setRoutes_intake (es : List RouteEntry) (s : State) : (s.setRoutes es).intake = s.intake := rfl
@[simp] theorem State.setRoutes_lanes (es : List RouteEntry) (s : State) : (s.setRoutes es).lanes = s.lanes := rfl
@[simp] theorem State.setRoutes_groups (es : List RouteEntry) (s : State) : (s.setRoutes es).groups = s.groups := rfl
@[simp] theorem State.setRoutes_steering (es : List RouteEntry) (s : State) : (s.setRoutes es).steering = s.steering := rfl
@[simp] theorem State.setRoutes_couplings (es : List RouteEntry) (s : State) : (s.setRoutes es).couplings = s.couplings := rfl
@[simp] theorem State.setRoutes_fuel (es : List RouteEntry) (s : State) : (s.setRoutes es).fuel = s.fuel := rfl
@[simp] theorem State.setRoutes_transfers (es : List RouteEntry) (s : State) : (s.setRoutes es).transfers = s.transfers := rfl
@[simp] theorem State.setRoutes_mgmt (es : List RouteEntry) (s : State) : (s.setRoutes es).mgmt = s.mgmt := rfl
@[simp] theorem State.setRoutes_due (es : List RouteEntry) (s : State) : (s.setRoutes es).due = s.due := rfl
@[simp] theorem State.setRoutes_pending (es : List RouteEntry) (s : State) : (s.setRoutes es).pending = s.pending := rfl

@[simp] theorem State.setMode_now (m : Mode) (s : State) : (s.setMode m).now = s.now := rfl
@[simp] theorem State.setMode_held (m : Mode) (s : State) : (s.setMode m).held = s.held := rfl
@[simp] theorem State.setMode_lineAsserted (m : Mode) (s : State) : (s.setMode m).lineAsserted = s.lineAsserted := rfl
@[simp] theorem State.setMode_supplyLow (m : Mode) (s : State) : (s.setMode m).supplyLow = s.supplyLow := rfl
@[simp] theorem State.setMode_straps (m : Mode) (s : State) : (s.setMode m).straps = s.straps := rfl
@[simp] theorem State.setMode_node (m : Mode) (s : State) : (s.setMode m).node = s.node := rfl
@[simp] theorem State.setMode_switch (m : Mode) (s : State) : (s.setMode m).switch = s.switch := rfl
@[simp] theorem State.setMode_intake (m : Mode) (s : State) : (s.setMode m).intake = s.intake := rfl
@[simp] theorem State.setMode_lanes (m : Mode) (s : State) : (s.setMode m).lanes = s.lanes := rfl
@[simp] theorem State.setMode_groups (m : Mode) (s : State) : (s.setMode m).groups = s.groups := rfl
@[simp] theorem State.setMode_steering (m : Mode) (s : State) : (s.setMode m).steering = s.steering := rfl
@[simp] theorem State.setMode_couplings (m : Mode) (s : State) : (s.setMode m).couplings = s.couplings := rfl
@[simp] theorem State.setMode_fuel (m : Mode) (s : State) : (s.setMode m).fuel = s.fuel := rfl
@[simp] theorem State.setMode_transfers (m : Mode) (s : State) : (s.setMode m).transfers = s.transfers := rfl
@[simp] theorem State.setMode_due (m : Mode) (s : State) : (s.setMode m).due = s.due := rfl
@[simp] theorem State.setMode_pending (m : Mode) (s : State) : (s.setMode m).pending = s.pending := rfl

@[simp] theorem State.setSlot_now (i : Fin 2) (a : Option Assembly) (s : State) : (s.setSlot i a).now = s.now := rfl
@[simp] theorem State.setSlot_held (i : Fin 2) (a : Option Assembly) (s : State) : (s.setSlot i a).held = s.held := rfl
@[simp] theorem State.setSlot_lineAsserted (i : Fin 2) (a : Option Assembly) (s : State) : (s.setSlot i a).lineAsserted = s.lineAsserted := rfl
@[simp] theorem State.setSlot_supplyLow (i : Fin 2) (a : Option Assembly) (s : State) : (s.setSlot i a).supplyLow = s.supplyLow := rfl
@[simp] theorem State.setSlot_straps (i : Fin 2) (a : Option Assembly) (s : State) : (s.setSlot i a).straps = s.straps := rfl
@[simp] theorem State.setSlot_node (i : Fin 2) (a : Option Assembly) (s : State) : (s.setSlot i a).node = s.node := rfl
@[simp] theorem State.setSlot_switch (i : Fin 2) (a : Option Assembly) (s : State) : (s.setSlot i a).switch = s.switch := rfl
@[simp] theorem State.setSlot_intake (i : Fin 2) (a : Option Assembly) (s : State) : (s.setSlot i a).intake = s.intake := rfl
@[simp] theorem State.setSlot_lanes (i : Fin 2) (a : Option Assembly) (s : State) : (s.setSlot i a).lanes = s.lanes := rfl
@[simp] theorem State.setSlot_groups (i : Fin 2) (a : Option Assembly) (s : State) : (s.setSlot i a).groups = s.groups := rfl
@[simp] theorem State.setSlot_steering (i : Fin 2) (a : Option Assembly) (s : State) : (s.setSlot i a).steering = s.steering := rfl
@[simp] theorem State.setSlot_couplings (i : Fin 2) (a : Option Assembly) (s : State) : (s.setSlot i a).couplings = s.couplings := rfl
@[simp] theorem State.setSlot_fuel (i : Fin 2) (a : Option Assembly) (s : State) : (s.setSlot i a).fuel = s.fuel := rfl
@[simp] theorem State.setSlot_transfers (i : Fin 2) (a : Option Assembly) (s : State) : (s.setSlot i a).transfers = s.transfers := rfl
@[simp] theorem State.setSlot_due (i : Fin 2) (a : Option Assembly) (s : State) : (s.setSlot i a).due = s.due := rfl
@[simp] theorem State.setSlot_pending (i : Fin 2) (a : Option Assembly) (s : State) : (s.setSlot i a).pending = s.pending := rfl

@[simp] theorem State.setArming_now (a : Option Arming) (s : State) : (s.setArming a).now = s.now := rfl
@[simp] theorem State.setArming_held (a : Option Arming) (s : State) : (s.setArming a).held = s.held := rfl
@[simp] theorem State.setArming_lineAsserted (a : Option Arming) (s : State) : (s.setArming a).lineAsserted = s.lineAsserted := rfl
@[simp] theorem State.setArming_supplyLow (a : Option Arming) (s : State) : (s.setArming a).supplyLow = s.supplyLow := rfl
@[simp] theorem State.setArming_straps (a : Option Arming) (s : State) : (s.setArming a).straps = s.straps := rfl
@[simp] theorem State.setArming_node (a : Option Arming) (s : State) : (s.setArming a).node = s.node := rfl
@[simp] theorem State.setArming_switch (a : Option Arming) (s : State) : (s.setArming a).switch = s.switch := rfl
@[simp] theorem State.setArming_intake (a : Option Arming) (s : State) : (s.setArming a).intake = s.intake := rfl
@[simp] theorem State.setArming_lanes (a : Option Arming) (s : State) : (s.setArming a).lanes = s.lanes := rfl
@[simp] theorem State.setArming_groups (a : Option Arming) (s : State) : (s.setArming a).groups = s.groups := rfl
@[simp] theorem State.setArming_steering (a : Option Arming) (s : State) : (s.setArming a).steering = s.steering := rfl
@[simp] theorem State.setArming_couplings (a : Option Arming) (s : State) : (s.setArming a).couplings = s.couplings := rfl
@[simp] theorem State.setArming_fuel (a : Option Arming) (s : State) : (s.setArming a).fuel = s.fuel := rfl
@[simp] theorem State.setArming_transfers (a : Option Arming) (s : State) : (s.setArming a).transfers = s.transfers := rfl
@[simp] theorem State.setArming_due (a : Option Arming) (s : State) : (s.setArming a).due = s.due := rfl
@[simp] theorem State.setArming_pending (a : Option Arming) (s : State) : (s.setArming a).pending = s.pending := rfl

@[simp] theorem State.setSounding_now (k : Fin 16) (kg : Option Nat) (s : State) : (s.setSounding k kg).now = s.now := rfl
@[simp] theorem State.setSounding_held (k : Fin 16) (kg : Option Nat) (s : State) : (s.setSounding k kg).held = s.held := rfl
@[simp] theorem State.setSounding_lineAsserted (k : Fin 16) (kg : Option Nat) (s : State) : (s.setSounding k kg).lineAsserted = s.lineAsserted := rfl
@[simp] theorem State.setSounding_supplyLow (k : Fin 16) (kg : Option Nat) (s : State) : (s.setSounding k kg).supplyLow = s.supplyLow := rfl
@[simp] theorem State.setSounding_straps (k : Fin 16) (kg : Option Nat) (s : State) : (s.setSounding k kg).straps = s.straps := rfl
@[simp] theorem State.setSounding_node (k : Fin 16) (kg : Option Nat) (s : State) : (s.setSounding k kg).node = s.node := rfl
@[simp] theorem State.setSounding_switch (k : Fin 16) (kg : Option Nat) (s : State) : (s.setSounding k kg).switch = s.switch := rfl
@[simp] theorem State.setSounding_intake (k : Fin 16) (kg : Option Nat) (s : State) : (s.setSounding k kg).intake = s.intake := rfl
@[simp] theorem State.setSounding_lanes (k : Fin 16) (kg : Option Nat) (s : State) : (s.setSounding k kg).lanes = s.lanes := rfl
@[simp] theorem State.setSounding_groups (k : Fin 16) (kg : Option Nat) (s : State) : (s.setSounding k kg).groups = s.groups := rfl
@[simp] theorem State.setSounding_steering (k : Fin 16) (kg : Option Nat) (s : State) : (s.setSounding k kg).steering = s.steering := rfl
@[simp] theorem State.setSounding_couplings (k : Fin 16) (kg : Option Nat) (s : State) : (s.setSounding k kg).couplings = s.couplings := rfl
@[simp] theorem State.setSounding_fuel (k : Fin 16) (kg : Option Nat) (s : State) : (s.setSounding k kg).fuel = s.fuel := rfl
@[simp] theorem State.setSounding_mgmt (k : Fin 16) (kg : Option Nat) (s : State) : (s.setSounding k kg).mgmt = s.mgmt := rfl
@[simp] theorem State.setSounding_due (k : Fin 16) (kg : Option Nat) (s : State) : (s.setSounding k kg).due = s.due := rfl
@[simp] theorem State.setSounding_pending (k : Fin 16) (kg : Option Nat) (s : State) : (s.setSounding k kg).pending = s.pending := rfl

@[simp] theorem State.setPort_now (p : Port) (ps : PortState) (s : State) : (s.setPort p ps).now = s.now := by
  cases p <;> rfl
@[simp] theorem State.setPort_held (p : Port) (ps : PortState) (s : State) : (s.setPort p ps).held = s.held := by
  cases p <;> rfl
@[simp] theorem State.setPort_lineAsserted (p : Port) (ps : PortState) (s : State) : (s.setPort p ps).lineAsserted = s.lineAsserted := by
  cases p <;> rfl
@[simp] theorem State.setPort_supplyLow (p : Port) (ps : PortState) (s : State) : (s.setPort p ps).supplyLow = s.supplyLow := by
  cases p <;> rfl
@[simp] theorem State.setPort_straps (p : Port) (ps : PortState) (s : State) : (s.setPort p ps).straps = s.straps := by
  cases p <;> rfl
@[simp] theorem State.setPort_node (p : Port) (ps : PortState) (s : State) : (s.setPort p ps).node = s.node := by
  cases p <;> rfl
@[simp] theorem State.setPort_intake (p : Port) (ps : PortState) (s : State) : (s.setPort p ps).intake = s.intake := by
  cases p <;> rfl
@[simp] theorem State.setPort_lanes (p : Port) (ps : PortState) (s : State) : (s.setPort p ps).lanes = s.lanes := by
  cases p <;> rfl
@[simp] theorem State.setPort_groups (p : Port) (ps : PortState) (s : State) : (s.setPort p ps).groups = s.groups := by
  cases p <;> rfl
@[simp] theorem State.setPort_steering (p : Port) (ps : PortState) (s : State) : (s.setPort p ps).steering = s.steering := by
  cases p <;> rfl
@[simp] theorem State.setPort_couplings (p : Port) (ps : PortState) (s : State) : (s.setPort p ps).couplings = s.couplings := by
  cases p <;> rfl
@[simp] theorem State.setPort_fuel (p : Port) (ps : PortState) (s : State) : (s.setPort p ps).fuel = s.fuel := by
  cases p <;> rfl
@[simp] theorem State.setPort_transfers (p : Port) (ps : PortState) (s : State) : (s.setPort p ps).transfers = s.transfers := by
  cases p <;> rfl
@[simp] theorem State.setPort_mgmt (p : Port) (ps : PortState) (s : State) : (s.setPort p ps).mgmt = s.mgmt := by
  cases p <;> rfl
@[simp] theorem State.setPort_due (p : Port) (ps : PortState) (s : State) : (s.setPort p ps).due = s.due := by
  cases p <;> rfl
@[simp] theorem State.setPort_pending (p : Port) (ps : PortState) (s : State) : (s.setPort p ps).pending = s.pending := by
  cases p <;> rfl

@[simp] theorem State.setPort_routes (p : Port) (ps : PortState) (s : State) :
    (s.setPort p ps).switch.routes = s.switch.routes := by
  cases p <;> rfl

@[simp] theorem State.setPort_unrouted (p : Port) (ps : PortState) (s : State) :
    (s.setPort p ps).switch.unrouted = s.switch.unrouted := by
  cases p <;> rfl

@[simp] theorem State.port_setPort_self (p : Port) (ps : PortState) (s : State) : (s.setPort p ps).port p = ps := by
  cases p <;> rfl

theorem State.port_setPort_ne {p p' : Port} (h : p' ≠ p) (ps : PortState) (s : State) :
    (s.setPort p ps).port p' = s.port p' := by
  cases p <;> cases p' <;> first | rfl | exact absurd rfl h

theorem State.port_setPort (p p' : Port) (ps : PortState) (s : State) :
    (s.setPort p ps).port p' = if p' = p then ps else s.port p' := by
  split
  · next h => rw [h, State.port_setPort_self]
  · next h => exact State.port_setPort_ne h ps s

/-- Two states with the same frame switch have the same ports. -/
theorem State.port_congr {s t : State} (h : t.switch = s.switch) (p : Port) : t.port p = s.port p := by
  cases p <;> simp [State.port, h]

@[simp] theorem State.at_now (t : Nat) (s : State) : (s.at t).now = max s.now t := rfl

@[simp] theorem State.putGroup_recs (g : Fin 2) (r : GroupRec) (s : State) :
    (s.putGroup g r).groups.recs = s.groups.recs.set g r := rfl

@[simp] theorem State.putGroup_rows (g : Fin 2) (r : GroupRec) (s : State) :
    (s.putGroup g r).groups.rows = s.groups.rows := rfl

@[simp] theorem State.putAcct_accts (k : Fin 16) (a : TankAcct) (s : State) :
    (s.putAcct k a).fuel.accts = s.fuel.accts.set k a := rfl

@[simp] theorem State.putAcct_tanks (k : Fin 16) (a : TankAcct) (s : State) :
    (s.putAcct k a).fuel.tanks = s.fuel.tanks := rfl

@[simp] theorem State.putAcct_recs (k : Fin 16) (a : TankAcct) (s : State) :
    (s.putAcct k a).fuel.recs = s.fuel.recs := rfl

@[simp] theorem State.putAcct_channels (k : Fin 16) (a : TankAcct) (s : State) :
    (s.putAcct k a).fuel.channels = s.fuel.channels := rfl

@[simp] theorem State.putChan_recs (ch : Fin 8) (r : ChanRec) (s : State) :
    (s.putChan ch r).fuel.recs = s.fuel.recs.set ch r := rfl

@[simp] theorem State.putChan_accts (ch : Fin 8) (r : ChanRec) (s : State) :
    (s.putChan ch r).fuel.accts = s.fuel.accts := rfl

@[simp] theorem State.putActive_active (x : Option Xfer) (s : State) : (s.putActive x).transfers.active = x := rfl

@[simp] theorem State.putActive_waiting (x : Option Xfer) (s : State) :
    (s.putActive x).transfers.waiting = s.transfers.waiting := rfl

@[simp] theorem State.setMode_mode (m : Mode) (s : State) : (s.setMode m).mgmt.mode = m := rfl

@[simp] theorem State.setSlot_slots (i : Fin 2) (a : Option Assembly) (s : State) :
    (s.setSlot i a).mgmt.slots = s.mgmt.slots.set i a := rfl

@[simp] theorem State.setArming_arming (a : Option Arming) (s : State) : (s.setArming a).mgmt.arming = a := rfl

/-- A lane's record after it is replaced, but for what the hooks of `putLane` do to other blocks, is the one put. -/
theorem State.lane_set (l : Fin 4) (r : LaneRec) (s : State) :
    ({ s with lanes := { s.lanes with recs := s.lanes.recs.set l r } } : State).lane l = r := by
  simp [State.lane]

/-- The flag of an event after one raise of it. -/
@[simp] theorem State.latch_flag_self (e : Event) (d : Option Nat) (s : State) :
    (s.latch e d).flag e = (s.flag e).raise d := by
  simp [State.latch, State.flag]

/-- The numbers of two events differ. -/
theorem Event.number_injective {a b : Event} (h : a.number = b.number) : a = b := by
  cases a <;> cases b <;> first | rfl | exact absurd h (by decide)

/-- The flags of the other events are left as they are. -/
theorem State.latch_flag_ne {e e' : Event} (h : e' ≠ e) (d : Option Nat) (s : State) :
    (s.latch e d).flag e' = s.flag e' := by
  have hn : e'.number ≠ e.number := fun hh => h (Event.number_injective hh)
  simp [State.latch, State.flag, Tab.get_set_ne _ _ hn]

end Sys2Proof.Machine
end

