-- ==== Sys2Proof/Laws/Frames.lean ====
section
/-!
SUPPORT. What queueing a frame, raising an event and queueing the summaries can do: each leaves the quiet part of the state
as it is, keeps every egress queue within 48 frames, and touches no flag but its own and PORT_CONGESTED.
-/

namespace Sys2Proof.Machine

/-! ## The egress queue of one port (R26) -/

/-- A dropped frame leaves one frame less. -/
theorem dropNewestRoutine_length {fs rest : List CmsFrame} (h : dropNewestRoutine fs = some rest) :
    rest.length + 1 = fs.length := by
  induction fs generalizing rest with
  | nil => simp [dropNewestRoutine] at h
  | cons f fs ih =>
    simp only [dropNewestRoutine] at h
    split at h
    · next r hr => cases h; simpa using ih hr
    · split at h
      · cases h
      · cases h; rfl

/-- An offer leaves the rest of the port as it is. -/
@[simp] theorem PortState.offered_core (o : Origin) (f : CmsFrame) (ps : PortState) :
    (ps.offered o f).core = ps.core := by
  unfold PortState.offered
  split
  · cases o <;> rfl
  · split
    · split <;> (cases o <;> rfl)
    · rfl

/-- An egress queue within 48 frames stays so (R26). -/
theorem PortState.offered_length {o : Origin} {f : CmsFrame} {ps : PortState} (h : ps.egress.length ≤ 48) :
    (ps.offered o f).egress.length ≤ 48 := by
  unfold PortState.offered egressMax
  split
  · cases o <;> simp <;> omega
  · split
    · split
      · next rest hr =>
        have := dropNewestRoutine_length hr
        cases o <;> simp <;> omega
      · exact h
    · exact h

/-- With room for it and below the congestion depth, a frame goes to the tail (R26, R28). -/
theorem PortState.offered_room {o : Origin} {f : CmsFrame} {ps : PortState} (h : ps.egress.length < 48) :
    (ps.offered o f).egress = ps.egress ++ [f] := by
  unfold PortState.offered egressMax
  rw [if_pos h]

/-! ## What queueing leaves as it is -/

/-- The relation between a state and the state after frames are queued and events raised in it: the quiet part is the same,
and so are the ingress side of the ports and the bound of every egress queue. -/
structure Calm (s t : State) : Prop where
  quiet  : t.quiet = s.quiet
  now    : t.now = s.now
  due    : t.due = s.due
  bound  : ∀ p, (s.port p).egress.length ≤ 48 → (t.port p).egress.length ≤ 48

theorem Calm.refl (s : State) : Calm s s := ⟨rfl, rfl, rfl, fun _ h => h⟩

theorem Calm.trans {s t u : State} (h : Calm s t) (g : Calm t u) : Calm s u :=
  ⟨g.quiet.trans h.quiet, g.now.trans h.now, g.due.trans h.due, fun p hp => g.bound p (h.bound p hp)⟩

/-- A frame offered to a port's egress queue. -/
theorem Calm.enqueue (p : Port) (o : Origin) (f : CmsFrame) (s : State) : Calm s (s.enqueue p o f) := by
  refine ⟨?_, ?_, ?_, fun p' h => ?_⟩
  · cases p <;> simp [State.enqueue, State.setPort, State.port, State.quiet]
  · simp [State.enqueue]
  · simp [State.enqueue]
  · rw [State.enqueue, State.port_setPort]
    split
    · next e => subst e; exact PortState.offered_length h
    · exact h

/-- An event's flag raised. -/
theorem Calm.latch (e : Event) (d : Option Nat) (s : State) : Calm s (s.latch e d) :=
  ⟨rfl, rfl, rfl, fun p h => by cases p <;> exact h⟩

theorem Calm.raiseCongested (p : Port) (s : State) : Calm s (s.raiseCongested p) := by
  unfold State.raiseCongested
  dsimp only
  split
  · split
    · exact ((Calm.latch _ _ s).trans (Calm.enqueue _ _ _ _)).trans (Calm.latch _ _ _)
    · exact (Calm.latch _ _ s).trans (Calm.enqueue _ _ _ _)
  · exact Calm.latch _ _ s

theorem Calm.offer (p : Port) (o : Origin) (f : CmsFrame) (s : State) : Calm s (s.offer p o f) := by
  unfold State.offer
  split
  · exact (Calm.enqueue p o f s).trans (Calm.raiseCongested p _)
  · exact Calm.enqueue p o f s

theorem Calm.raiseWith (e : Event) (d : Option Nat) (data : List Byte) (s : State) : Calm s (s.raiseWith e d data) := by
  unfold State.raiseWith
  dsimp only
  split
  · exact (Calm.latch e d s).trans (Calm.offer _ _ _ _)
  · exact Calm.latch e d s

theorem Calm.raise (e : Event) (d : Option Nat) (s : State) : Calm s (s.raise e d) := Calm.raiseWith e d _ s

theorem Calm.originate (p : Port) (k : MsgKind) (target : Nat) (data : List Byte) (s : State) :
    Calm s (s.originate p k target data) := Calm.offer _ _ _ _

theorem Calm.order (p : Port) (k : MsgKind) (target : Nat) (data : List Byte) (s : State) :
    Calm s (s.order p k target data) := by
  unfold State.order
  split
  · exact Calm.originate _ _ _ _ _
  · exact Calm.refl s

theorem Calm.originateAll (p : Port) (fs : List CmsFrame) (s : State) : Calm s (s.originateAll p fs) := by
  induction fs generalizing s with
  | nil => exact Calm.refl s
  | cons f rest ih =>
    simp only [State.originateAll]
    split
    · exact ((Calm.enqueue _ _ _ _).trans (ih _)).trans (Calm.raiseCongested _ _)
    · exact (Calm.enqueue _ _ _ _).trans (ih _)

theorem Calm.reply (target : Nat) (code : Byte) (r : Result) (body : List Byte) (s : State) :
    Calm s (s.reply target code r body) := Calm.originateAll _ _ _

/-! ## The quiet part through the small updates -/

@[simp] theorem State.quiet_at (t : Nat) (s : State) : (s.at t).quiet = s.quiet := rfl
@[simp] theorem State.quiet_dueLane (l : Fin 4) (s : State) : (s.dueLane l).quiet = s.quiet := rfl
@[simp] theorem State.quiet_dueHelm (s : State) : s.dueHelm.quiet = s.quiet := rfl
@[simp] theorem State.quiet_dueCoupling (c : Fin 32) (s : State) : (s.dueCoupling c).quiet = s.quiet := rfl
@[simp] theorem State.quiet_dueCommand (s : State) : s.dueCommand.quiet = s.quiet := rfl
@[simp] theorem State.quiet_raise (e : Event) (d : Option Nat) (s : State) : (s.raise e d).quiet = s.quiet :=
  (Calm.raise e d s).quiet
@[simp] theorem State.quiet_originate (p : Port) (k : MsgKind) (target : Nat) (data : List Byte) (s : State) :
    (s.originate p k target data).quiet = s.quiet := (Calm.originate p k target data s).quiet
@[simp] theorem State.quiet_order (p : Port) (k : MsgKind) (target : Nat) (data : List Byte) (s : State) :
    (s.order p k target data).quiet = s.quiet := (Calm.order p k target data s).quiet
@[simp] theorem State.quiet_reply (target : Nat) (code : Byte) (r : Result) (body : List Byte) (s : State) :
    (s.reply target code r body).quiet = s.quiet := (Calm.reply target code r body s).quiet

/-! ## Summaries -/

/-- A table of records with one record's summary period moved has the same cores. -/
theorem map_modify {n : Nat} {α β : Type} (v : Tab n α) (i : Fin n) (f : α → α) (g : α → β)
    (h : ∀ x, g (f x) = g x) : (v.modify i f).map g = v.map g := by
  apply Tab.ext_get
  intro j
  simp only [Tab.get_map, Tab.modify, Tab.get_set]
  split
  · next e => subst e; exact h _
  · rfl

theorem State.quiet_laneSummary (l : Fin 4) (s : State) : (s.laneSummary l).quiet = s.quiet := by
  unfold State.laneSummary
  split
  · rfl
  · dsimp only
    rw [(Calm.originateAll _ _ _).quiet]
    simp only [State.quiet]
    rw [map_modify (g := LaneRec.core) (h := by intro x; rfl)]

theorem State.quiet_coupSummary (c : Fin 32) (s : State) : (s.coupSummary c).quiet = s.quiet := by
  unfold State.coupSummary
  split
  · rfl
  · dsimp only
    rw [State.quiet_originate]
    simp only [State.quiet]
    rw [map_modify (g := CoupRec.core) (h := by intro x; rfl)]

theorem State.quiet_helmSummary (s : State) : s.helmSummary.quiet = s.quiet := by
  unfold State.helmSummary
  dsimp only
  rw [(Calm.originateAll _ _ _).quiet]
  rfl

theorem State.quiet_commandState (s : State) : s.commandState.quiet = s.quiet := by
  unfold State.commandState
  rw [State.quiet_originate]
  rfl

/-- What holds of every step of a walk over a table holds of the walk. -/
theorem forEach_quiet {ι : Type} (is : List ι) (f : ι → State → State) (h : ∀ i s, (f i s).quiet = s.quiet) (s : State) :
    (forEach is f s).quiet = s.quiet := by
  induction is generalizing s with
  | nil => rfl
  | cons i is ih => exact (ih (f i s)).trans (h i s)

/-- The summaries queued as an event ends leave the quiet part as it is. -/
@[simp] theorem State.quiet_flush (s : State) : s.flush.quiet = s.quiet := by
  unfold State.flush
  dsimp only
  have lanes : ∀ x : State,
      (forAll 4 (fun l s' => if s.due.lanes.get l = true then s'.laneSummary l else s') x).quiet = x.quiet := by
    intro x
    refine forEach_quiet _ _ (fun i s' => ?_) x
    split
    · exact State.quiet_laneSummary _ _
    · rfl
  have coups : ∀ x : State,
      (forAll 32 (fun c s' => if s.due.couplings.get c = true then s'.coupSummary c else s') x).quiet = x.quiet := by
    intro x
    refine forEach_quiet _ _ (fun i s' => ?_) x
    split
    · exact State.quiet_coupSummary _ _
    · rfl
  have helm : ∀ x : State, (if s.due.helm = true then x.helmSummary else x).quiet = x.quiet := by
    intro x
    split
    · exact State.quiet_helmSummary x
    · rfl
  have command : ∀ x : State, (if s.due.command = true then x.commandState else x).quiet = x.quiet := by
    intro x
    split
    · exact State.quiet_commandState x
    · rfl
  rw [command, coups, helm, lanes]
  rfl

/-! ## Flags -/

/-- A raise sets or counts its own flag; PORT_CONGESTED may follow from the frame it queues. -/
theorem State.enqueue_flag (p : Port) (o : Origin) (f : CmsFrame) (e : Event) (s : State) :
    (s.enqueue p o f).flag e = s.flag e := by
  cases p <;> rfl

theorem State.raiseCongested_flag {e : Event} (h : e ≠ .portCongested) (p : Port) (s : State) :
    (s.raiseCongested p).flag e = s.flag e := by
  unfold State.raiseCongested
  dsimp only
  split
  · split
    · rw [State.latch_flag_ne h, State.enqueue_flag, State.latch_flag_ne h]
    · rw [State.enqueue_flag, State.latch_flag_ne h]
  · exact State.latch_flag_ne h _ _

theorem State.offer_flag {e : Event} (h : e ≠ .portCongested) (p : Port) (o : Origin) (f : CmsFrame) (s : State) :
    (s.offer p o f).flag e = s.flag e := by
  unfold State.offer
  split
  · rw [State.raiseCongested_flag h, State.enqueue_flag]
  · exact State.enqueue_flag _ _ _ _ _

theorem State.raiseWith_flag_self {e : Event} (h : e ≠ .portCongested) (d : Option Nat) (data : List Byte) (s : State) :
    (s.raiseWith e d data).flag e = (s.flag e).raise d := by
  unfold State.raiseWith
  dsimp only
  split
  · rw [State.offer_flag h, State.latch_flag_self]
  · exact State.latch_flag_self _ _ _

theorem State.raiseWith_flag_ne {e e' : Event} (h : e' ≠ .portCongested) (hn : e' ≠ e) (d : Option Nat)
    (data : List Byte) (s : State) : (s.raiseWith e d data).flag e' = s.flag e' := by
  unfold State.raiseWith
  dsimp only
  split
  · rw [State.offer_flag h, State.latch_flag_ne hn]
  · exact State.latch_flag_ne hn _ _

theorem State.originateAll_flag {e : Event} (h : e ≠ .portCongested) (p : Port) (fs : List CmsFrame) (s : State) :
    (s.originateAll p fs).flag e = s.flag e := by
  induction fs generalizing s with
  | nil => rfl
  | cons f rest ih =>
    simp only [State.originateAll]
    split
    · rw [State.raiseCongested_flag h, ih, State.enqueue_flag]
    · rw [ih, State.enqueue_flag]

end Sys2Proof.Machine
end

