-- ==== Sys2Proof/Laws/Steps.lean ====
section
/-!
SUPPORT. What the shared operations of the drives can do: each writes only the records of lanes, groups, actuators and
couplings, the ceilings, the frames it queues, the events it raises and the summaries it gives cause for. One lemma for each,
for a proof to cite instead of unfolding the operation.
-/

namespace Sys2Proof.Machine

/-- A state less what the operations of the drives write: the quiet part with its clock, the records of lanes, groups,
actuators and couplings blanked, and the ceilings and the last order refusal with them. -/
def fixedOf (q : State) (now : Nat) : State :=
  { q with
    now := now
    lanes := { q.lanes with recs := Tab.fill 4 (LaneRec.reset 0), ceils := Tab.fill 4 Ceilings.empty }
    groups := { q.groups with recs := Tab.fill 2 GroupRec.reset }
    steering := { q.steering with recs := Tab.fill 8 ActRec.reset }
    couplings := { q.couplings with recs := Tab.fill 32 (CoupRec.reset 0), lastRefusal := none } }

/-- The fixed part of a state. -/
def State.fixed (s : State) : State := fixedOf s.quiet s.now

/-- The relation between a state and the state after an operation of the drives: the fixed part is the same, and no egress
queue passes its bound. -/
structure Driven (s t : State) : Prop where
  fixed : t.fixed = s.fixed
  bound : ∀ p, (s.port p).egress.length ≤ 48 → (t.port p).egress.length ≤ 48

/-! ## What the fixed part holds -/

theorem Driven.refl (s : State) : Driven s s := ⟨rfl, fun _ h => h⟩

theorem Driven.trans {s t u : State} (h : Driven s t) (g : Driven t u) : Driven s u :=
  ⟨g.fixed.trans h.fixed, fun p hp => g.bound p (h.bound p hp)⟩

theorem Driven.now {s t : State} (h : Driven s t) : t.now = s.now :=
  congrArg (fun u => u.now) h.fixed
theorem Driven.held {s t : State} (h : Driven s t) : t.held = s.held :=
  congrArg (fun u => u.held) h.fixed
theorem Driven.node {s t : State} (h : Driven s t) : t.node = s.node :=
  congrArg (fun u => u.node) h.fixed
theorem Driven.fuel {s t : State} (h : Driven s t) : t.fuel = s.fuel :=
  congrArg (fun u => u.fuel) h.fixed
theorem Driven.transfers {s t : State} (h : Driven s t) : t.transfers = s.transfers :=
  congrArg (fun u => u.transfers) h.fixed
theorem Driven.pending {s t : State} (h : Driven s t) : t.pending = s.pending :=
  congrArg (fun u => u.pending) h.fixed
theorem Driven.mode {s t : State} (h : Driven s t) : t.mgmt.mode = s.mgmt.mode := congrArg (fun u => u.mgmt.mode) h.fixed
theorem Driven.slots {s t : State} (h : Driven s t) : t.mgmt.slots = s.mgmt.slots := congrArg (fun u => u.mgmt.slots) h.fixed
theorem Driven.arming {s t : State} (h : Driven s t) : t.mgmt.arming = s.mgmt.arming :=
  congrArg (fun u => u.mgmt.arming) h.fixed
theorem Driven.routes {s t : State} (h : Driven s t) : t.switch.routes = s.switch.routes :=
  congrArg (fun u => u.switch.routes) h.fixed
theorem Driven.stations {s t : State} (h : Driven s t) : t.intake.stations = s.intake.stations :=
  congrArg (fun u => u.intake.stations) h.fixed
theorem Driven.job {s t : State} (h : Driven s t) (j : Job) : t.job j = s.job j := by
  cases j
  · exact congrArg (fun u => u.intake.prop) h.fixed
  · exact congrArg (fun u => u.intake.steer) h.fixed
theorem Driven.laneRows {s t : State} (h : Driven s t) : t.lanes.rows = s.lanes.rows := congrArg (fun u => u.lanes.rows) h.fixed
theorem Driven.groupRows {s t : State} (h : Driven s t) : t.groups.rows = s.groups.rows :=
  congrArg (fun u => u.groups.rows) h.fixed
theorem Driven.actRows {s t : State} (h : Driven s t) : t.steering.rows = s.steering.rows :=
  congrArg (fun u => u.steering.rows) h.fixed
theorem Driven.coupRows {s t : State} (h : Driven s t) : t.couplings.rows = s.couplings.rows :=
  congrArg (fun u => u.couplings.rows) h.fixed
theorem Driven.permit {s t : State} (h : Driven s t) : t.couplings.permit = s.couplings.permit :=
  congrArg (fun u => u.couplings.permit) h.fixed
theorem Driven.helm {s t : State} (h : Driven s t) : t.steering.helm = s.steering.helm :=
  congrArg (fun u => u.steering.helm) h.fixed

/-! ## Frames, events and walks -/

/-- Queueing frames and raising events (R7, R26, R163). -/
theorem Driven.of_calm {s t : State} (h : Calm s t) : Driven s t :=
  ⟨by rw [State.fixed, State.fixed, h.quiet, h.now], h.bound⟩

theorem Driven.raise (e : Event) (d : Option Nat) (s : State) : Driven s (s.raise e d) := .of_calm (Calm.raise e d s)
theorem Driven.order (p : Port) (k : MsgKind) (target : Nat) (data : List Byte) (s : State) :
    Driven s (s.order p k target data) := .of_calm (Calm.order p k target data s)
theorem Driven.dueLane (l : Fin 4) (s : State) : Driven s (s.dueLane l) := ⟨rfl, fun p h => by cases p <;> exact h⟩
theorem Driven.dueHelm (s : State) : Driven s s.dueHelm := ⟨rfl, fun p h => by cases p <;> exact h⟩
theorem Driven.dueCoupling (c : Fin 32) (s : State) : Driven s (s.dueCoupling c) := ⟨rfl, fun p h => by cases p <;> exact h⟩

/-- A walk over a table whose every step is one. -/
theorem Driven.forEach {ι : Type} (is : List ι) (f : ι → State → State) (h : ∀ i s, Driven s (f i s)) (s : State) :
    Driven s (forEach is f s) := by
  induction is generalizing s with
  | nil => exact .refl s
  | cons i is ih => exact (h i s).trans (ih (f i s))

theorem Driven.forAll (n : Nat) (f : Fin n → State → State) (h : ∀ i s, Driven s (f i s)) (s : State) :
    Driven s (forAll n f s) := .forEach _ f h s

/-! ## The steering allocator (chapter 6) -/

theorem Driven.putAct (a : Fin 8) (r : ActRec) (s : State) : Driven s (s.putAct a r) := by
  unfold State.putAct
  dsimp only
  split
  · exact ⟨rfl, fun p h => by cases p <;> exact h⟩
  · exact ⟨rfl, fun p h => by cases p <;> exact h⟩

theorem Driven.evaluate (a : Fin 8) (s : State) : Driven s (s.evaluate a) := by
  unfold State.evaluate
  split
  · exact .refl s
  · exact .putAct _ _ s

theorem Driven.evaluateAll (s : State) : Driven s s.evaluateAll := .forAll 8 _ Driven.evaluate s

theorem Driven.evaluateLane (l : Fin 4) (s : State) : Driven s (s.evaluateLane l) := by
  refine .forAll 8 _ (fun a s => ?_) s
  split
  · split
    · exact .evaluate a s
    · exact .refl s
  · exact .refl s

theorem Driven.orderAct (a : Fin 8) (s : State) : Driven s (s.orderAct a) := by
  unfold State.orderAct
  split
  · exact .refl s
  · exact (Driven.putAct _ _ s).trans (.order _ _ _ _ _)

theorem Driven.enterTracking (a : Fin 8) (row : ActRow) (v : Int) (since : Nat) (s : State) :
    Driven s (s.enterTracking a row v since) :=
  ((Driven.putAct _ _ s).trans (.evaluate a _)).trans (.orderAct a _)

theorem Driven.enterUnreachable (a : Fin 8) (row : ActRow) (s : State) : Driven s (s.enterUnreachable a row) :=
  ((Driven.putAct _ _ s).trans (.order _ _ _ _ _)).trans (.raise _ _ _)

theorem Driven.adoptAct (a : Fin 8) (row : ActRow) (position : Int) (arrival : Nat) (s : State) :
    Driven s (s.adoptAct a row position arrival) := by
  unfold State.adoptAct
  split
  · exact .enterTracking _ _ _ _ s
  · exact .enterUnreachable _ _ s

theorem Driven.retestReach (a : Fin 8) (s : State) : Driven s (s.retestReach a) := by
  unfold State.retestReach
  split
  · exact .refl s
  · split
    · split
      · exact .refl s
      · exact .enterUnreachable _ _ s
    · split
      · exact .enterTracking _ _ _ _ s
      · exact .refl s
    · exact .refl s
    · exact .refl s

theorem Driven.retestReachOf (c : Fin 32) (s : State) : Driven s (s.retestReachOf c) := by
  refine .forAll 8 _ (fun a s => ?_) s
  split
  · split
    · exact .retestReach a s
    · exact .refl s
  · exact .refl s

/-! ## Couplings as the drives write them (R117, R120, R124) -/

theorem Driven.putCoup (c : Fin 32) (r : CoupRec) (s : State) : Driven s (s.putCoup c r) := by
  unfold State.putCoup
  dsimp only
  split
  · exact ⟨rfl, fun p h => by cases p <;> exact h⟩
  · exact ⟨rfl, fun p h => by cases p <;> exact h⟩

theorem Driven.refuseOrder (source : Nat) (o : CoupOrder) (c : Option (Fin 32)) (why : CoupReason) (s : State) :
    Driven s (s.refuseOrder source o c why) := by
  have h0 : Driven s { s with couplings := { s.couplings with
      lastRefusal := some { source := source, order := o, index := c, reason := why } } } :=
    ⟨rfl, fun p h => by cases p <;> exact h⟩
  unfold State.refuseOrder
  dsimp only
  refine Driven.trans ?_ (.raise _ _ _)
  split
  · exact h0
  · exact (h0.trans (.putCoup _ _ _)).trans (.dueCoupling _ _)

theorem Driven.abandonRelease (c : Fin 32) (s : State) : Driven s (s.abandonRelease c) := by
  unfold State.abandonRelease
  split
  · exact .refl s
  · exact ((Driven.putCoup _ _ s).trans (.order _ _ _ _ _)).trans (.refuseOrder _ _ _ _ _)

theorem Driven.abandonReleases (b : Boat) (s : State) : Driven s (s.abandonReleases b) := by
  refine .forAll 32 _ (fun c s => ?_) s
  split
  · exact .abandonRelease c s
  · exact .refl s

/-! ## The lane sequencer (chapter 4) -/

/-- A lane record written: besides the record, the actuators it steers and the releases of its boat (R100, R124). -/
theorem Driven.putLane (l : Fin 4) (r : LaneRec) (s : State) : Driven s (s.putLane l r) := by
  have h0 : Driven s { s with lanes := { s.lanes with recs := s.lanes.recs.set l r } } :=
    ⟨rfl, fun p h => by cases p <;> exact h⟩
  unfold State.putLane
  dsimp only
  split
  · exact h0
  · have h1 := (h0.trans (.dueLane l _)).trans (.evaluateLane l _)
    split
    · split
      · exact h1.trans (.abandonReleases _ _)
      · exact h1
    · exact h1

theorem Driven.putGroup (g : Fin 2) (r : GroupRec) (s : State) : Driven s (s.putGroup g r) :=
  ⟨rfl, fun p h => by cases p <;> exact h⟩

theorem Driven.orderLane (l : Fin 4) (row : LaneRow) (s : State) : Driven s (s.orderLane l row) := by
  unfold State.orderLane
  dsimp only
  split
  · exact (Driven.putLane _ _ s).trans (.order _ _ _ _ _)
  · exact .refl s

theorem Driven.settleGroup (g : Fin 2) (s : State) : Driven s (s.settleGroup g) := by
  unfold State.settleGroup
  split
  · exact .putGroup _ _ s
  · exact .refl s

theorem Driven.leaveGroup (l : Fin 4) (s : State) : Driven s (s.leaveGroup l) := by
  unfold State.leaveGroup
  dsimp only
  split
  · split
    · split
      · exact (Driven.putLane _ _ s).trans (.settleGroup _ _)
      · exact .putLane _ _ s
    · exact .putLane _ _ s
  · exact .refl s

theorem Driven.faultLane (l : Fin 4) (row : LaneRow) (why : LaneCause) (s : State) : Driven s (s.faultLane l row why) := by
  unfold State.faultLane
  dsimp only
  refine Driven.trans ?_ (.raise _ _ _)
  refine Driven.trans ?_ (.putLane _ _ _)
  refine Driven.trans ?_ (.leaveGroup _ _)
  split
  · exact .order _ _ _ _ s
  · exact .refl s

theorem Driven.stopLane (l : Fin 4) (row : LaneRow) (arrival : Nat) (s : State) : Driven s (s.stopLane l row arrival) :=
  (Driven.leaveGroup l s).trans (.putLane _ _ _)

theorem Driven.unsyncLane (l : Fin 4) (s : State) : Driven s (s.unsyncLane l) :=
  (Driven.leaveGroup l s).trans (.putLane _ _ _)

theorem Driven.engage (l : Fin 4) (row : LaneRow) (d : Dir) (kick : Option Nat) (s : State) :
    Driven s (s.engage l row d kick) := (Driven.putLane _ _ s).trans (.orderLane l row _)

theorem Driven.declutch (l : Fin 4) (row : LaneRow) (s : State) : Driven s (s.declutch l row) :=
  (Driven.putLane _ _ s).trans (.orderLane l row _)

theorem Driven.settleRampdown (l : Fin 4) (row : LaneRow) (s : State) : Driven s (s.settleRampdown l row) := by
  unfold State.settleRampdown
  split
  · exact .declutch l row s
  · exact .refl s

theorem Driven.writeSetpoint (l : Fin 4) (row : LaneRow) (v : Nat) (s : State) : Driven s (s.writeSetpoint l row v) := by
  unfold State.writeSetpoint
  dsimp only
  split
  · exact .refl s
  · split
    · exact (Driven.putLane _ _ s).trans (.declutch l row _)
    · exact (Driven.putLane _ _ s).trans (.orderLane l row _)

theorem Driven.engageOrWait (l : Fin 4) (row : LaneRow) (d : Dir) (speed : Nat) (kick : Option Nat) (s : State) :
    Driven s (s.engageOrWait l row d speed kick) := by
  unfold State.engageOrWait
  dsimp only
  split
  · exact .engage l row d kick s
  · exact .putLane _ _ s

/-- A change of a lane's target, in every state of the table of section 4.6. -/
theorem Driven.applyChange (l : Fin 4) (row : LaneRow) (d : Dir) (speed : Nat) (kick : Option Nat) (s : State) :
    Driven s (s.applyChange l row d speed kick) := by
  unfold State.applyChange
  dsimp only
  split
  · split
    · exact .putLane _ _ s
    · exact (Driven.putLane _ _ s).trans (.engageOrWait _ _ _ _ _ _)
  · split
    · exact .putLane _ _ s
    · exact (Driven.putLane _ _ s).trans (.declutch _ _ _)
  · split
    · exact .putLane _ _ s
    · exact (Driven.putLane _ _ s).trans (.settleRampdown _ _ _)
  · split
    · exact .putLane _ _ s
    · exact (Driven.putLane _ _ s).trans (.settleRampdown _ _ _)
  · split
    · exact .putLane _ _ s
    · exact .putLane _ _ s
  · exact .putLane _ _ s
  · exact .refl s
  · exact .refl s
  · exact .refl s

theorem Driven.clearCrash (l : Fin 4) (row : LaneRow) (s : State) : Driven s (s.clearCrash l row) := by
  unfold State.clearCrash
  dsimp only
  split
  · split
    · exact (Driven.putLane _ _ s).trans (.engageOrWait _ _ _ _ _ _)
    · exact .putLane _ _ s
  · exact .refl s

/-! ## Step groups and ceilings (chapter 5) -/

theorem Driven.writeSetpoints (ls : List (Fin 4)) (v : Nat) (s : State) : Driven s (s.writeSetpoints ls v) := by
  refine .forEach _ _ (fun l s => ?_) s
  split
  · exact .writeSetpoint _ _ _ s
  · exact .refl s

theorem Driven.movePoint (g : Fin 2) (v : Nat) (s : State) : Driven s (s.movePoint g v) := by
  unfold State.movePoint
  dsimp only
  split
  · exact .refl s
  · exact (Driven.putGroup _ _ s).trans (.writeSetpoints _ _ _)

theorem Driven.cutPoint (g : Fin 2) (s : State) : Driven s (s.cutPoint g) := by
  unfold State.cutPoint
  split
  · split
    · exact .movePoint _ _ s
    · exact .refl s
  · exact .refl s

theorem Driven.applyCeiling (l : Fin 4) (s : State) : Driven s (s.applyCeiling l) := by
  unfold State.applyCeiling
  split
  · exact .refl s
  · next row _ =>
    split
    · have h1 : Driven s (if (s.lane l).inStep then
          match row.home with
          | some g => s.cutPoint g
          | none => s
        else s) := by
        split
        · split
          · exact .cutPoint _ s
          · exact .refl s
        · exact .refl s
      revert h1
      dsimp only
      generalize (if (s.lane l).inStep then (match row.home with | some g => s.cutPoint g | none => s) else s) = s1
      intro h1
      split
      · exact h1.trans (.writeSetpoint _ _ _ _)
      · exact h1
    · exact .refl s

/-- An entry of the ceiling record written, and the setpoints it cuts (R66, R76, R89). -/
theorem Driven.putCeilings (l : Fin 4) (c : Ceilings) (s : State) : Driven s (s.putCeilings l c) := by
  have h0 : Driven s { s with lanes := { s.lanes with ceils := s.lanes.ceils.set l c } } :=
    ⟨rfl, fun p h => by cases p <;> exact h⟩
  exact h0.trans (.applyCeiling l _)

theorem Driven.postCeilings (on : LaneRow → Bool) (f : LaneRow → Ceilings → Ceilings) (s : State) :
    Driven s (s.postCeilings on f) := by
  refine .forAll 4 _ (fun l s => ?_) s
  split
  · split
    · exact .putCeilings _ _ s
    · exact .refl s
  · exact .refl s

theorem Driven.joinGroup (d : Dir) (v : Nat) (l : Fin 4) (s : State) : Driven s (s.joinGroup d v l) := by
  unfold State.joinGroup
  split
  · exact .refl s
  · have h1 := Driven.putLane l { (s.lane l).dropKick with inStep := true } s
    revert h1
    dsimp only
    generalize s.putLane l _ = s1
    intro h1
    split
    all_goals
      split
      · exact h1.trans (.clearCrash _ _ _)
      · exact (h1.trans (.putLane _ _ _)).trans (.applyChange _ _ _ _ _ _)

theorem Driven.settlePoint (g : Fin 2) (s : State) : Driven s (s.settlePoint g) := by
  unfold State.settlePoint
  dsimp only
  split
  · exact .putGroup _ _ s
  · exact (Driven.putGroup _ _ s).trans (.writeSetpoints _ _ _)

theorem Driven.changeGroup (g : Fin 2) (d : Dir) (v : Nat) (s : State) : Driven s (s.changeGroup g d v) :=
  (((Driven.putGroup _ _ s).trans (.forEach _ _ Driven.leaveGroup _)).trans
    (.forEach _ _ (Driven.joinGroup d v) _)).trans (.settlePoint g _)

theorem Driven.suspendGroup (g : Fin 2) (s : State) : Driven s (s.suspendGroup g) :=
  (Driven.putGroup _ _ s).trans (.forEach _ _ Driven.leaveGroup _)

theorem Driven.runGroup (g : Fin 2) (row : GroupRow) (s : State) : Driven s (s.runGroup g row) := by
  unfold State.runGroup
  dsimp only
  split
  · exact .putGroup _ _ s
  · exact (Driven.putGroup _ _ s).trans (.movePoint _ _ _)

theorem Driven.gatherGroup (g : Fin 2) (s : State) : Driven s (s.gatherGroup g) := by
  unfold State.gatherGroup
  dsimp only
  split
  · exact (Driven.putGroup _ _ s).trans (.movePoint _ _ _)
  · exact .putGroup _ _ s

theorem Driven.groupRamp (g : Fin 2) (s : State) : Driven s (s.groupRamp g) := by
  unfold State.groupRamp
  dsimp only
  split
  · split
    · split
      · exact .refl s
      · exact (Driven.putGroup _ _ s).trans (.runGroup _ _ _)
      · exact (Driven.putGroup _ _ s).trans (.gatherGroup _ _)
    · exact .refl s
  · exact .refl s

theorem Driven.groupHold (g : Fin 2) (s : State) : Driven s (s.groupHold g) := by
  unfold State.groupHold
  split
  · split
    · exact (Driven.putGroup _ _ s).trans (.forEach _ _ (fun l s => (Driven.leaveGroup l s).trans (.raise _ _ _)) _)
    · exact .refl s
  · exact .refl s

/-! ## Engine reports (R51 to R57) and demands (R58 to R71) -/

theorem Driven.adoptLane (l : Fin 4) (row : LaneRow) (rep : EngineReport) (arrival : Nat) (s : State) :
    Driven s (s.adoptLane l row rep arrival) := by
  unfold State.adoptLane State.adoptNeutral State.adoptEngaged
  dsimp only
  split
  · exact .refl s
  · split
    · exact .stopLane _ _ _ s
    · split
      · exact .refl s
      all_goals exact (Driven.putLane _ _ s).trans (.orderLane _ _ _)

theorem Driven.ridePoint (l : Fin 4) (row : LaneRow) (s : State) : Driven s (s.ridePoint l row) := by
  unfold State.ridePoint
  split
  · split
    · exact (Driven.cutPoint _ s).trans (.writeSetpoint _ _ _ _)
    · exact .refl s
  · exact .refl s

theorem Driven.confirmEngaged (l : Fin 4) (row : LaneRow) (d : Dir) (s : State) : Driven s (s.confirmEngaged l row d) :=
  (Driven.putLane _ _ s).trans (.ridePoint _ _ _)

theorem Driven.confirmNeutral (l : Fin 4) (row : LaneRow) (arrival : Nat) (s : State) :
    Driven s (s.confirmNeutral l row arrival) := by
  unfold State.confirmNeutral
  dsimp only
  split
  · exact .putLane _ _ s
  · exact (Driven.putLane _ _ s).trans (.engageOrWait _ _ _ _ _ _)

theorem Driven.demandLane (l : Fin 4) (row : LaneRow) (d : Dir) (v : Nat) (kick : Option Nat) (s : State) :
    Driven s (s.demandLane l row d v kick) := by
  have h1 : Driven s (if (s.lane l).inStep then (s.leaveGroup l).raise .leftGroup (some l.val) else s) := by
    split
    · exact (Driven.leaveGroup l s).trans (.raise _ _ _)
    · exact .refl s
  unfold State.demandLane
  dsimp only
  generalize (if (s.lane l).inStep then (s.leaveGroup l).raise .leftGroup (some l.val) else s) = s1 at h1 ⊢
  split
  · split
    · exact h1.trans (.putLane _ _ _)
    · exact h1
  · exact (h1.trans (.putLane _ _ _)).trans (.applyChange _ _ _ _ _ _)

theorem Driven.crashLane (l : Fin 4) (s : State) : Driven s (s.crashLane l) := by
  unfold State.crashLane
  split
  · exact .refl s
  · dsimp only
    split
    · exact .putLane _ _ s
    · split
      · exact ((Driven.putLane _ _ s).trans (.applyChange _ _ _ _ _ _)).trans (.putLane _ _ _)
      · exact (Driven.putLane _ _ s).trans (.applyChange _ _ _ _ _ _)

theorem Driven.crashAstern (s : State) : Driven s s.crashAstern :=
  ((Driven.suspendGroup 0 s).trans (.suspendGroup 1 _)).trans (.forEach _ _ Driven.crashLane _)

theorem Driven.uncoupleAssist (c : Fin 32) (s : State) : Driven s (s.uncoupleAssist c) := by
  refine Driven.trans (.raise _ _ s) (.forAll 4 _ (fun l s => ?_) _)
  unfold State.uncoupleLane
  split
  · split
    · exact ((Driven.leaveGroup l s).trans (.putLane _ _ _)).trans (.applyChange _ _ _ _ _ _)
    · exact .refl s
  · exact .refl s

end Sys2Proof.Machine
end

