-- ==== Sys2Proof/Tests/Slice0.lean ====
section
/-!
SUPPORT. Tests. A towboat's tables as a fixture; smoke tests of the well-formedness check; worked examples of the spec, one
command each; and for every statement of Certificates/Slice0 with hypotheses a theorem that shows a concrete state and concrete
operands meeting them, clause by clause. Expected results come from the spec's text and worked figures.
-/

namespace Sys2Proof.Tests
open Sys2Proof.Machine
set_option Elab.async false

/-! ## A towboat -/


def laneRow (node : Nat) (port : Port) (boat : Boat) (home : Option (Fin 2)) (ch : Fin 8) : LaneRow :=
  { node := node, port := port, boat := boat, feedTank := 4, channel := ch, home := home, idle := 6000, maxAhead := 18000,
    maxAstern := 12000, reserveCap := 9000, rampUp := 50, rampDown := 80, crashRampDown := 200, clutchTimeout := 3000,
    neutralTimeout := 3000, reversalDwell := 8000, crashDwell := 3000, crashSpeed := 10000, refresh := 200,
    statusTimeout := 1000 }

def station (node : Nat) (rights override : Bool) : StationRow :=
  { node := node, prop := rights, steer := rights, couple := rights, override := override, speedTol := 500,
    helmTol := 50 }

def entry (k : MsgKind) : RouteEntry :=
  { kind := k.number.toNat, source := none, forward := { B := false, M := false, T := false }, deliver := true,
    rewrite := none, interval := none, hits := 0, lastForward := none }

def actRow (node : Nat) (kind : ActKind) (lane : Fin 4) (path : List (Fin 32)) : ActRow :=
  { node := node, port := .T, kind := kind, lane := lane, fullScale := 900, limit := 700, rate := 50, path := path,
    refresh := 200, statusTimeout := 1000 }

def coupRow (node : Nat) (kind : CoupKind) (bears : Option Boat) : CoupRow :=
  { node := node, port := .T, kind := kind, bears := bears, makeUpTarget := 300, makeUpBand := 20, soft := 400,
    hard := 600, floor := 500, slackLimit := 100, slackTime := 1000, makeUpTimeout := 60000, easeTimeout := 60000,
    releaseTimeout := 10000, statusTimeout := 2000 }

def tankRow (kind : TankKind) (hose : Option (Fin 32)) : TankRow :=
  { kind := kind, capacity := 50000, reserve := 1000, hysteresis := 200, fullMargin := 500, density := 8450, alpha := 830,
    hose := hose }

def chanRow (node : Nat) (kind : ChanKind) : ChanRow :=
  { node := node, kind := kind, supplyPulse := 100, returnPulse := if kind = .engine then some 100 else none, cap := 5000,
    timeout := 3000, density := 8450 }

def acct (kg : Nat) : TankAcct :=
  { TankAcct.reset with defined := true, content := kg * 1000000, opening := kg * 1000000 }

def gains : Gains := { ahead := 1000, astern := -500, neutral := 200 }

def owners : List MsgKind :=
  [.speedDemand, .groupDemand, .neutralDemand, .kickDemand, .crashAstern, .helmDemand, .takeCommand, .releaseCommand,
   .couplingOrder, .engineStatus, .steerStatus, .winchStatus, .pumpStatus, .meterReading]

/-- A part in COORDINATING with every table in use. -/
def sea : State :=
  { State.reset with
    now := 9000
    switch := { State.reset.switch with routes := owners.map entry }
    intake := { State.reset.intake with
      stations := ((State.reset.intake.stations.set 0 (some (station 10 true false))).set 1
        (some (station 11 true true))).set 2 (some (station 12 false false))
      prop := { station := some 0, lastHeard := some 8000, loss := .attended }
      steer := { station := some 0, lastHeard := some 8000, loss := .attended }
      stateAt := 9500 }
    lanes := { State.reset.lanes with
      rows := (((State.reset.lanes.rows.set 0 (some (laneRow 31 .M .main none 1))).set 1
        (some (laneRow 32 .T .main (some 0) 4))).set 2 (some (laneRow 33 .M .main (some 0) 5))).set 3
        (some (laneRow 34 .T .assist none 6))
      recs := Tab.fill 4 (LaneRec.reset 9500) }
    groups := { State.reset.groups with
      rows := State.reset.groups.rows.set 0 (some { tolerance := 100, holdLimit := 3000 }) }
    steering := { State.reset.steering with
      rows := (State.reset.steering.rows.set 0 (some (actRow 41 .mainRudder 0 []))).set 1
        (some (actRow 42 .flankingRudder 1 [5]))
      bankA := (State.reset.steering.bankA.set 0 (some gains)).set 1 (some gains)
      bankB := (State.reset.steering.bankB.set 0 (some gains)).set 1 (some gains)
      summaryAt := 9500 }
    couplings := { State.reset.couplings with
      rows := (((State.reset.couplings.rows.set 0 (some (coupRow 51 .face (some .main)))).set 5
        (some (coupRow 52 .tier none))).set 6 (some (coupRow 53 .assist (some .assist)))).set 7
        (some (coupRow 54 .tier none))
      recs := Tab.fill 32 (CoupRec.reset 9500) }
    fuel := { State.reset.fuel with
      tanks := (((State.reset.fuel.tanks.set 2 (some (tankRow .storage none))).set 4 (some (tankRow .feed none))).set 3
        (some (tankRow .storage none))).set 9 (some (tankRow .barge (some 7)))
      accts := (((State.reset.fuel.accts.set 2 (acct 40000)).set 4 (acct 2000)).set 9 (acct 30000)).set 3 (acct 10000)
      channels := ((State.reset.fuel.channels.set 1 (some (chanRow 61 .engine))).set 2
        (some (chanRow 62 .transfer))).set 3 (some (chanRow 63 .engine)) }
    mgmt := { State.reset.mgmt with
      mode := .coordinating
      flags := State.reset.mgmt.flags.map (fun f => { f with masked := false }) } }

/-- The state with a frame at the head of a port's ingress queue. -/
def given (s : State) (p : Port) (k : MsgKind) (source : Nat) (data : List Byte) : State :=
  s.setPort p { s.port p with ingress :=
    [{ extended := true, remote := false, arrival := s.now
       frame := { id := { cls := 1#3, kind := k.number, source := BitVec.ofNat 7 source, target := 0#7, last := true,
                          part := 0#3 }, data := data } }] }

/-- The state with the last part of a management request from node 100 at the head of port B's ingress queue. -/
def asked (s : State) (m : List Byte) : State :=
  let k := (m.length - 1) / 8
  let slot : Assembly := { source := 100, code := m.getD 0 0, next := k, bytes := m.take (8 * k), expiry := s.now + 500 }
  let w := if k = 0 then s else { s with mgmt := { s.mgmt with slots := s.mgmt.slots.set 0 (some slot) } }
  w.setPort .B { w.port .B with ingress :=
    [{ extended := true, remote := false, arrival := s.now
       frame := { id := { cls := 3#3, kind := 0x90#8, source := 100#7, target := 126#7, last := true,
                          part := BitVec.ofNat 3 k }, data := m.drop (8 * k) } }] }

/-- Lane records a rule finds: NEUTRAL for long, engaged at `v`, ENGAGING ahead, DECLUTCH from ahead, RAMPDOWN. -/
def neutral (r : LaneRec) : LaneRec :=
  { r with state := .neutral, setpoint := 6000, neutralSince := some 0, lastEngaged := some .ahead }

def ahead (v : Nat) (r : LaneRec) : LaneRec :=
  { r with
    state := .ahead, gear := .ahead, setpoint := v, lastEngaged := some .ahead, targetDir := .ahead, targetSpeed := v,
    rampTimer := some 9000, refreshTimer := some 9000, statusTimer := some 9000, speed := some v }

def engaging (r : LaneRec) : LaneRec :=
  { r with
    state := .engaging, gear := .ahead, setpoint := 6000, targetDir := .ahead, targetSpeed := 9000,
    clutchTimer := some 9000, refreshTimer := some 9000, statusTimer := some 9500 }

def declutch (r : LaneRec) : LaneRec :=
  { r with
    state := .declutch, setpoint := 6000, lastEngaged := some .ahead, neutralTimer := some 9000,
    statusTimer := some 9500 }

def rampdown (v : Nat) (r : LaneRec) : LaneRec :=
  { ahead v r with state := .rampdown, targetDir := .neutral, targetSpeed := 0 }

def lane (l : Fin 4) (f : LaneRec → LaneRec) (s : State) : State := s.setLane l (f (s.lane l))
def wire (c : Fin 32) (f : CoupRec → CoupRec) (s : State) : State := s.setCoup c (f (s.coup c))
def rudder (a : Fin 8) (f : ActRec → ActRec) (s : State) : State := s.setAct a (f (s.act a))
def inMode (m : Mode) (s : State) : State := { s with mgmt := { s.mgmt with mode := m } }
def grouped (f : LaneRec → LaneRec) (r : LaneRec) : LaneRec := { f r with inStep := true }
def permitted (s : State) : State := s.setPermit (some { holder := 10, setAt := 8000 })
def fast (r : CoupRec) : CoupRec := { r with state := .madeFast, slackTimer := some 9000, statusTimer := some 9000 }
def inState (st : CoupState) (r : CoupRec) : CoupRec :=
  { r with state := st, lock := false, opTimer := some 9000, repeatTimer := some 9000, statusTimer := some 9000 }
def inLoss (x : Loss) (s : State) : State :=
  { s with intake := { s.intake with prop := { s.intake.prop with loss := x }, steer := { s.intake.steer with loss := x } } }
def group (r : GroupRec) (s : State) : State := { s with groups := { s.groups with recs := s.groups.recs.set 0 r } }
def armed (s : State) : State := { s with mgmt := { s.mgmt with arming := some { source := 100, expiry := 9000 } } }

/-- A transfer from the storage tank 2 to the storage tank 3. -/
def xfer (st : XferState) : Xfer :=
  { number := 7, source := 2, dest := 3, amount := 5000, pumpNode := 70, pumpPort := .M, channel := 2, moved := 100,
    state := st, code := none, pumpStopped := false, startTimer := some 9000, stopTimer := some 9000,
    repeatTimer := some 9000 }

def active (st : XferState) (s : State) : State := s.putActive (some (xfer st))
def queued (s : State) : State :=
  { s with transfers := { s.transfers with waiting := some { xfer .pending with number := 8 } } }

/-- Lanes 1 and 2 in step at `v`, the group's point and target there too, its timers due. -/
def together (v : Nat) (hold : Option Nat) (s : State) : State :=
  group { GroupRec.reset with
    targetDir := .ahead, targetSpeed := 9000, point := v, holdStart := hold, rampTimer := some 9000, tolerance := 100 }
    (lane 1 (grouped (ahead v)) (lane 2 (grouped (ahead v)) s))

/-- The next state of a step; the state itself where there is none. -/
def after (c : Instr) (s : State) : State := match exec c s with | .next u => u | _ => s

/-! ## Situations as checks: a true check gives the situation a statement speaks of -/

def completesB (t : Nat) (r : Req) (s : State) (P : List Byte → State → Bool) : Bool :=
  match s.completed t with
  | some (_, m, s2) => decide (requestOf m = r) && (s2.earlyRefusal r m).isNone && P m s2
  | none => false

theorem completes_of {t : Nat} {r : Req} {s : State} {P : List Byte → State → Bool} (h : completesB t r s P = true) :
    ∃ source m s2, Completes t r source m s s2 ∧ P m s2 = true := by
  unfold completesB at h
  split at h
  · next a m s2 e =>
    simp only [Bool.and_eq_true, decide_eq_true_eq, Option.isNone_iff_eq_none] at h
    exact ⟨a, m, s2, ⟨e, h.1.1, h.1.2⟩, h.2⟩
  · cases h

/-- What a partial answer gives when a check of it holds. -/
theorem some_of {α : Type} {o : Option α} {P : α → Bool} (h : o.any P = true) : ∃ x, o = some x ∧ P x = true := by
  cases o with
  | none => cases h
  | some x => exact ⟨x, rfl, h⟩

/-- What holds of every loaded row. -/
theorem rows_of {n : Nat} {α : Type} {v : Tab n (Option α)} {f : Fin n → α → Bool}
    (h : (indices n).all (fun j => (v.get j).all (f j)) = true) : ∀ j x, v.get j = some x → f j x = true := by
  intro j x e
  have := List.all_eq_true.1 h j (mem_indices j)
  rw [e] at this
  exact this

/-! ## Well-formedness -/

theorem test_frame_of_nine_bytes_refused :
    (Instr.frameReceived 0 .B { extended := true, remote := false, ident := 0#29, data := List.replicate 9 0#8 }).wf
      = false := by decide

theorem test_standard_identifier_of_twelve_bits_refused :
    (Instr.frameReceived 0 .B { extended := false, remote := false, ident := 2048#29, data := [] }).wf = false := by decide

theorem test_frame_of_eight_bytes_accepted :
    (Instr.frameReceived 0 .B { extended := true, remote := false, ident := 0x583F1F8#29, data := List.replicate 8 0#8 }).wf
      = true := by decide

/-! ## Worked examples of the spec -/

/-- Section 11.1: class 1, kind 60h, source 126, target 31, last part, index 0 is 583F1F8h. -/
theorem test_identifier_example :
    (Ident.mk 1#3 0x60#8 126#7 31#7 true 0#3).toBits = 0x583F1F8#29
      ∧ Ident.ofBits 0x583F1F8#29 = Ident.mk 1#3 0x60#8 126#7 31#7 true 0#3 := by decide

/-- Section 5.2.1: the derate at 400, 401, 500, 533 and 600 kN with S 400, H 600 and floor 300. -/
theorem test_derate_figures :
    let row := { coupRow 51 .face (some .main) with soft := 400, hard := 600, floor := 300 }
    [400, 401, 500, 533, 600].map row.derate = [1000, 996, 650, 534, 300] := by decide

/-- Section 6.5.1: worked target figures. -/
theorem test_target_figures :
    actTarget 600 800 450 400 = 216 ∧ actTarget (-350) 900 1000 900 = -315 ∧ actTarget (-333) 700 350 300 = -81
      ∧ actTarget 1000 950 450 400 = 400 := by decide

/-- Section 8.8: the products of the first reading, 84,141 mg of supply and 60,935 mg of return with their remainders. -/
theorem test_engine_draw_figures :
    massProduct 412 250 8450 700 625 0 = 84141 * massUnit + 8625000000
      ∧ massProduct 300 250 8450 700 700 0 = 60935 * massUnit + 6250000000 := by decide

/-- Section 4.12: a RAMPDOWN at 6,040 with a ramp-down step of 80 is cut short at idle and goes to DECLUTCH. -/
theorem test_ramp_step_cut_at_idle :
    let s := lane 0 (rampdown 6040) sea
    ((after (.rampTimerExpiry 9000 0) s).lane 0).state = .declutch
      ∧ ((after (.rampTimerExpiry 9000 0) s).lane 0).setpoint = 6000 := by decide +kernel

/-- Section 4.12: under the crash flag the pending engagement waits the crash dwell from the neutral-since time. -/
theorem test_crash_shortens_the_dwell :
    let s := lane 0 (fun r => { neutral r with neutralSince := some 7800 }) sea
    ((after (.crashAstern 9000 .B) (given s .B .crashAstern 10 [])).lane 0).dwellTimer = some 10800 := by decide +kernel

/-- Section 7.10: UNLOCK by a station that does not hold the permit is refused and leaves the permit. -/
theorem test_unlock_without_the_permit :
    let s := (sea.setPermit (some { holder := 13, setAt := 8600 }))
    let u := after (.unlock 9000 .B) (given s .B .couplingOrder 10 [4, 6])
    u.couplings.permit = some { holder := 13, setAt := 8600 } ∧ (u.coup 6).lock = true
      ∧ u.couplings.lastRefusal.map (·.reason) = some .noPermit := by decide +kernel

/-- Section 9.5: a transfer reading of 200 pulses of 1,000 µL at 15.0 °C and 845.0 kg/m³ moves 169,000 mg. -/
theorem test_transfer_reading_moves_its_mass :
    massProduct 200 1000 8450 700 150 0 = 169000 * massUnit := by decide

/-- Section 2.4.1: a class-2 frame at a full queue displaces the newest routine frame. -/
theorem test_attention_displaces_the_newest_routine_frame :
    let f (c : BitVec 3) (n : Byte) : CmsFrame := { id := { cls := c, kind := n, source := 1#7, target := 0#7, last := true, part := 0#3 }, data := [] }
    let ps := { PortState.reset with egress := List.replicate 46 (f 5#3 1#8) ++ [f 6#3 2#8, f 5#3 3#8] }
    (ps.offered .originated (f 2#3 4#8)).egress = List.replicate 46 (f 5#3 1#8) ++ [f 6#3 2#8, f 2#3 4#8] := by
  decide +kernel

/-! ## Witnesses: the machine, resets -/

theorem witness_StepRunsTheFrontCommand :
    ({ sea with pending := [.identify 9000, .engage 9000] }).pending = .identify 9000 :: [.engage 9000] ∧ sea.pending = [] :=
  ⟨rfl, rfl⟩

theorem witness_EveryCommandAnswersAndAHeldPartDoesNothing :
    NothingDue sea ∧ ({ sea with lineAsserted := true }).lineAsserted = true ∧ ({ sea with supplyLow := true }).supplyLow = true
    ∧ (({ sea with lineAsserted := true, supplyLow := true }).lineAsserted = true
      ∧ ({ sea with lineAsserted := true, supplyLow := true }).supplyLow = true) ∧ sea.lineAsserted = false
    ∧ 10 ≤ 10 ∧ 9 < 10 :=
  ⟨rfl, rfl, rfl, ⟨rfl, rfl⟩, rfl, by decide, by decide⟩

/-- R170: held by the line and the supply together, the part comes out at the later of the two ends, in either order. -/
theorem test_both_causes_must_end :
    (match execPowerOnReset 9100 (.lineReleased 5#7) { sea with lineAsserted := true, supplyLow := true } with
      | .next s => s.held && (match execPowerOnReset 9200 (.supplyRises 5#7) s with
        | .next u => !u.held && u.node == 5
        | _ => false)
      | _ => false) = true
    ∧ (match execPowerOnReset 9100 (.supplyRises 5#7) { sea with lineAsserted := true, supplyLow := true } with
      | .next s => s.held && (match execPowerOnReset 9200 (.lineReleased 5#7) s with
        | .next u => !u.held && u.node == 5
        | _ => false)
      | _ => false) = true := by decide +kernel

theorem witness_PowerOnReset : ((({ sea with lineAsserted := true }).lineAsserted = true
      ∧ ({ sea with lineAsserted := true }).supplyLow = false) ∧ sea.lineAsserted = false
      ∧ 10 ≤ 10 ∧ HoldCause.line 10 = .line 10) ∧ (1 ≤ (1#7).toNat ∧ (126#7).toNat ≤ 126)
    ∧ ((0#7 : BitVec 7) = 0#7 ∧ (127#7).toNat = 127) :=
  ⟨⟨⟨rfl, rfl⟩, rfl, by decide⟩, by decide, by decide⟩

theorem witness_CommandResetIsArmed :
    (∃ source m s2, Completes 8500 .resetArm source m (asked sea [0x50]) s2 ∧ true = true)
    ∧ (∃ source m s2, Completes 8500 .reset source m (asked sea [0x51]) s2 ∧ decide (s2.mgmt.arming = none) = true)
    ∧ (sea.held = false ∧ (armed sea).mgmt.arming = some { source := 100, expiry := 9000 } ∧ 9000 ≤ ((armed sea).at 9000).now)
    ∧ (∃ source m s2, Completes 8500 .reset source m (asked (armed sea) [0x51]) s2
        ∧ (s2.armedFor 100 && decide (s2.transfers.active = none) && decide ((s2.acct 4).atReserve = false)
          && decide (1000 * 1000000 ≤ (s2.acct 4).content)) = true)
    ∧ (∃ source m s2, Completes 8500 .reset source m (asked (queued (active .running (armed sea))) [0x51]) s2
        ∧ (s2.armedFor 100 && decide (s2.transfers.active = some (xfer .running) ∧ s2.transfers.waiting ≠ none)
          && decide ((xfer .running).pumpPort = .M)) = true)
    ∧ (∃ source m s2, Completes 8500 .reset source m (asked (queued (armed (sea.putAcct 4 (acct 999)))) [0x51]) s2
        ∧ decide (s2.armedFor 100 = true ∧ s2.transfers.active = none ∧ s2.transfers.waiting ≠ none
          ∧ (s2.acct 4).defined = true ∧ s2.fuel.tanks.get 4 = some (tankRow .feed none)
          ∧ (s2.acct 4).content < ((1000 * 1000000 : Nat) : Int)
          ∧ s2.lanes.rows.get 0 = some (laneRow 31 .M .main none 1)
          ∧ s2.fuel.tanks.get 2 = some (tankRow .storage none)) = true) := by
  refine ⟨completes_of ?_, completes_of ?_, ?_, completes_of ?_, completes_of ?_, completes_of ?_⟩ <;> decide +kernel

/-! ## Witnesses: the frame switch -/

/-- A frame at the head of a port's queue, its fields spelled out. -/
def head (p : Port) (kind : Byte) (source target : Nat) (last : Bool) (part : Nat) (data : List Byte) (s : State) : State :=
  s.setPort p { s.port p with ingress :=
    [{ extended := true, remote := false, arrival := s.now
       frame := { id := { cls := 5#3, kind := kind, source := BitVec.ofNat 7 source, target := BitVec.ofNat 7 target,
                          last := last, part := BitVec.ofNat 3 part }, data := data } }] }

/-- What a classification finds at the head of a port's queue: its test, and that it is the only frame there. -/
def headed (p : Port) (s : State) (P : Received → Bool) : Bool :=
  match (s.port p).ingress with
  | [q] => P q
  | _ => false

theorem headed_of {p : Port} {s : State} {P : Received → Bool} (h : headed p s P = true) :
    ∃ q, (s.port p).ingress = [q] ∧ P q = true := by
  unfold headed at h
  split at h
  · next q e => exact ⟨q, e, h⟩
  · cases h

def wire8 : WireFrame := { extended := true, remote := false, ident := 0x583F1F8#29, data := List.replicate 8 0#8 }
def early : Received :=
  { extended := true, remote := false, frame := { id := Ident.ofBits 0x583F1F8#29, data := [] }, arrival := 8000 }

def crowded (n : Nat) (s : State) : State := s.setPort .M { s.port .M with ingress := List.replicate n early }

theorem witness_ReceivedFramesAreQueuedAndMalformedOnesDropped :
    (sea.held = false ∧ wire8.wf = true ∧ ((crowded 31 sea).port .M).ingress.length < 32)
    ∧ ((crowded 32 sea).port .M).ingress.length = 32
    ∧ (∃ q, ((head .M 0x40#8 0 0 true 0 [] sea).port .M).ingress = [q] ∧ q.isMalformed 126 = true)
    ∧ (∃ q, ((head .T 0x90#8 5 126 true 0 [1#8] sea).port .T).ingress = [q]
        ∧ decide (q.isMalformed 126 = false ∧ q.frame.id.target.toNat = 126 ∧ q.frame.id.kind = 0x90#8) = true)
    ∧ (∃ q, ((head .B 0x85#8 5 126 true 0 [1#8] sea).port .B).ingress = [q]
        ∧ decide (q.frame.id.target.toNat = 126 ∧ q.frame.id.kind = 0x85#8) = true)
    ∧ (∃ q, ((head .B 0x40#8 5 126 true 0 [] (inMode .passThrough sea)).port .B).ingress = [q]
        ∧ decide (q.frame.id.target.toNat = 126 ∧ q.frame.id.kind = 0x40#8) = true)
    ∧ (∃ q, ((head .M 0x85#8 5 12 true 0 [] sea).port .M).ingress = [q]
        ∧ decide (q.frame.id.target.toNat ≠ 126 ∧ q.frame.id.kind = 0x85#8 ∧ sea.mgmt.mode ≠ .passThrough) = true) := by
  refine ⟨?_, ?_, headed_of ?_, headed_of ?_, headed_of ?_, headed_of ?_, headed_of ?_⟩ <;> decide +kernel

theorem witness_PassThroughForwardsToTheOtherPorts :
    (∃ q, ((head .M 0x20#8 10 0 true 0 [0#8, 1#8, 0#8, 0#8] (inMode .passThrough sea)).port .M).ingress = [q]
      ∧ (decide (q.isMalformed 126 = false ∧ q.frame.id.target.toNat ≠ 126) && decide (q.kind = some .speedDemand)
        && decide (MsgKind.speedDemand.isStatus = false)) = true)
    ∧ (∃ q, ((head .M 0x40#8 31 0 true 0 [1#8, 3#8, 0#8, 0#8] (inMode .passThrough sea)).port .M).ingress = [q]
        ∧ (decide (q.isMalformed 126 = false) && decide (q.kind = some .engineStatus)
          && handable .engineStatus q.frame.data) = true)
    ∧ (∃ q, ((head .M 0x40#8 31 0 true 0 [1#8, 4#8, 0#8, 0#8] (inMode .passThrough sea)).port .M).ingress = [q]
        ∧ (decide (q.isMalformed 126 = false) && decide (q.kind = some .engineStatus)
          && !handable .engineStatus q.frame.data) = true) := by
  refine ⟨headed_of ?_, headed_of ?_, headed_of ?_⟩ <;> decide +kernel

/-- ENGINE_STATUS with a route entry of its own: forwarded to B and T, thinned to one frame in 100 ms, rewritten. -/
def thin (last : Nat) (deliver : Bool) : RouteEntry :=
  { entry .engineStatus with
    forward := { B := true, M := true, T := true }, deliver := deliver, rewrite := some 0, interval := some 100,
    lastForward := some last }

def routed (e : RouteEntry) (s : State) : State :=
  s.setRoutes (s.switch.routes.map fun x => if x.kind = e.kind then e else x)

/-- Two of a pairwise list, as a check. -/
def distinct : List RouteEntry → Bool
  | [] => true
  | e :: es => es.all (fun x => !e.sameKey x) && distinct es

theorem witness_RouteEntriesForwardThinAndDeliver :
    (∃ q, ((head .M 0x40#8 31 0 true 0 [1#8, 3#8, 0#8, 0#8] (routed (thin 8900 true) sea)).port .M).ingress = [q]
      ∧ (decide (q.isMalformed 126 = false) && decide (lookup (routed (thin 8900 true) sea).switch.routes q = some (thin 8900 true))
        && distinct (routed (thin 8900 true) sea).switch.routes && decide (¬ q.arrival < 8900 + 100)
        && handable .engineStatus q.frame.data) = true)
    ∧ (∃ q, ((head .M 0x40#8 31 0 true 0 [1#8, 4#8, 0#8, 0#8] (routed (thin 8901 true) sea)).port .M).ingress = [q]
      ∧ (decide (lookup (routed (thin 8901 true) sea).switch.routes q = some (thin 8901 true))
        && decide (q.arrival < 8901 + 100) && !handable .engineStatus q.frame.data) = true)
    ∧ (∃ q, ((head .M 0x40#8 31 0 true 0 [1#8] (routed (thin 8901 false) sea)).port .M).ingress = [q]
      ∧ (decide (lookup (routed (thin 8901 false) sea).switch.routes q = some (thin 8901 false))
        && decide ((thin 8901 false).deliver = false)) = true) := by
  refine ⟨headed_of ?_, headed_of ?_, headed_of ?_⟩ <;> decide +kernel

theorem witness_LookupPrefersTheExactKey :
    ∃ q, ((head .M 0x95#8 31 0 true 0 [] sea).port .M).ingress = [q]
      ∧ (decide (q.isMalformed 126 = false) && decide (lookup sea.switch.routes q = none)) = true := by
  refine headed_of ?_
  decide +kernel

def frameOf (c : BitVec 3) : CmsFrame :=
  { id := { cls := c, kind := 0x77#8, source := 1#7, target := 0#7, last := true, part := 0#3 }, data := [] }

theorem witness_EgressQueuesDisplaceAndSendByClass :
    (PortState.reset.egress.length < 48)
    ∧ (List.replicate 20 (frameOf 2#3) ++ frameOf 4#3 :: List.replicate 27 (frameOf 3#3)).length = 48
    ∧ (4 ≤ (frameOf 4#3).id.cls.toNat ∧ (frameOf 3#3).id.cls.toNat ≤ 3)
    ∧ (List.replicate 48 (frameOf 2#3)).all (fun y => decide (y.id.cls.toNat ≤ 3)) = true
    ∧ (sea.held = false ∧ (frameOf 1#3).id.cls.toNat < (frameOf 2#3).id.cls.toNat)
    ∧ NothingDue sea := by
  refine ⟨?_, ?_, ?_, ?_, ?_, rfl⟩ <;> decide +kernel

/-- A port's egress queue holding `n` frames of a class. -/
def laden (p : Port) (n : Nat) (c : BitVec 3) (s : State) : State :=
  s.setPort p { s.port p with egress := List.replicate n (frameOf c) }

/-- PORT_CONGESTED: flag set, flag masked, flag clear with the ATTENTION frame admitted and, at a full B, dropped; and a copy
forwarded to M in PASS_THROUGH. -/
theorem witness_EgressQueuesDisplaceAndSendByClass_congested :
    (((laden .M 34 5#3 sea).port .M).congests (frameOf 5#3) = false)
    ∧ (((laden .M 35 5#3 State.reset).port .M).congests (frameOf 5#3) = true
      ∧ (State.reset.flag .portCongested).masked = true)
    ∧ (((laden .T 35 5#3 sea).port .T).congests (frameOf 5#3) = true
      ∧ (sea.flag .portCongested).isSet = false ∧ (sea.flag .portCongested).masked = false)
    ∧ (((laden .B 48 2#3 sea).port .B).congests (frameOf 2#3) = true
      ∧ (((laden .B 48 2#3 sea).port .B).offered .originated (frameOf 2#3)).congests (frameOf 2#3) = true)
    ∧ (∃ q, ((head .B 0x20#8 10 0 true 0 [] (laden .M 35 5#3 (inMode .passThrough sea))).port .B).ingress = [q]
      ∧ (decide (q.isMalformed 126 = false ∧ q.frame.id.target.toNat ≠ 126 ∧ q.kind = some .speedDemand)
        && ((laden .M 35 5#3 sea).port .M).congests q.frame && !(sea.port .T).congests q.frame) = true) := by
  refine ⟨?_, ?_, ?_, ?_, headed_of ?_⟩ <;> decide +kernel

theorem witness_ClassificationIsTheOwnersStep :
    (∃ x, (given sea .B .couplingOrder 10 [7#8, 0#8]).delivery 9000 .B = some x ∧ decide (x.1 = .couplingOrder) = true)
    ∧ (∃ x, (asked sea [0x20]).completed 9000 = some x ∧ decide ((requestOf x.2.1).command 9000 = some (.engage 9000)) = true) := by
  refine ⟨some_of ?_, some_of ?_⟩ <;> decide +kernel

/-- A request part from node 100 at the head of B, with slots held by nodes 100 and 101. -/
def part (k : Nat) (last : Bool) (n : Nat) (s : State) : State := head .B 0x90#8 100 126 last k (List.replicate n 1#8) s

def slot (source next : Nat) : Assembly :=
  { source := source, code := 0x10#8, next := next, bytes := List.replicate (8 * next) 3#8, expiry := 9000 }

def slots (a b : Option Assembly) (s : State) : State :=
  { s with mgmt := { s.mgmt with slots := (s.mgmt.slots.set 0 a).set 1 b } }

def handedB (s : State) (P : Received → State → Bool) : Bool := (s.handed 8500).any (fun x => P x.1 x.2)

theorem handed_of {s : State} {P : Received → State → Bool} (h : handedB s P = true) :
    ∃ q s1, s.handed 8500 = some (q, s1) ∧ P q s1 = true := by
  obtain ⟨⟨q, s1⟩, e, hp⟩ := some_of h
  exact ⟨q, s1, e, hp⟩

theorem witness_RequestsAreReassembledInTheirSlots :
    (∃ q, ((part 0 true 1 sea).port .B).ingress = [q] ∧ decide (q.isMalformed 126 = false ∧ q.frame.id.kind = 0x90#8
        ∧ q.frame.id.target.toNat = 126) = true)
    ∧ (∃ q s1, (part 0 false 8 (slots (some (slot 100 3)) none sea)).handed 8500 = some (q, s1)
        ∧ decide (q.frame.id.part = 0#3 ∧ q.frame.data.length = 8 ∧ s1.slotOf 100 = some 0) = true)
    ∧ (∃ q s1, (part 0 false 8 sea).handed 8500 = some (q, s1)
        ∧ decide (s1.slotOf 100 = none ∧ s1.freeSlot = some 0 ∧ q.frame.id.last = false) = true)
    ∧ (∃ q s1, (part 0 false 8 (slots (some (slot 99 1)) (some (slot 101 1)) sea)).handed 8500 = some (q, s1)
        ∧ decide (s1.slotOf 100 = none ∧ s1.freeSlot = none ∧ q.frame.id.last = false) = true)
    ∧ (∃ q s1, (part 0 false 7 sea).handed 8500 = some (q, s1) ∧ decide (1 ≤ q.frame.data.length ∧ q.frame.data.length < 8 ∧ s1.held = false) = true)
    ∧ (∃ q s1, (part 0 false 0 sea).handed 8500 = some (q, s1) ∧ decide (q.frame.data = [] ∧ q.frame.id.last = false ∧ s1.held = false) = true)
    ∧ (∃ q s1, (part 0 true 0 sea).handed 8500 = some (q, s1) ∧ decide (q.frame.id.last = true ∧ q.frame.data = [] ∧ s1.held = false) = true)
    ∧ (∃ q s1, (part 0 true 1 sea).handed 8500 = some (q, s1) ∧ decide (q.frame.id.last = true ∧ q.frame.data ≠ [] ∧ s1.held = false) = true)
    ∧ (∃ q s1, (part 1 true 1 sea).handed 8500 = some (q, s1)
        ∧ decide (q.frame.id.part ≠ 0#3 ∧ s1.slotOf 100 = none) = true)
    ∧ (∃ q s1, (part 6 false 8 (slots (some (slot 100 6)) none sea)).handed 8500 = some (q, s1)
        ∧ decide (s1.slotOf 100 = some 0 ∧ s1.mgmt.slots.get 0 = some (slot 100 6) ∧ q.frame.id.last = false) = true)
    ∧ (∃ q s1, (part 7 true 8 (slots (some (slot 100 7)) none sea)).handed 8500 = some (q, s1)
        ∧ decide (s1.slotOf 100 = some 0 ∧ q.frame.id.last = true ∧ q.frame.data ≠ []) = true)
    ∧ (∃ q s1, (part 7 false 8 (slots (some (slot 100 7)) none sea)).handed 8500 = some (q, s1)
        ∧ decide (s1.slotOf 100 = some 0 ∧ q.frame.id.last = false ∧ q.frame.id.part.toNat = 7) = true)
    ∧ ((slots (some (slot 100 1)) none sea).mgmt.slots.get 0 = some (slot 100 1) ∧ 9000 ≤ (sea.at 9000).now) := by
  refine ⟨headed_of ?_, handed_of ?_, handed_of ?_, handed_of ?_, handed_of ?_, handed_of ?_, handed_of ?_, handed_of ?_,
    handed_of ?_, handed_of ?_, handed_of ?_, handed_of ?_, ?_⟩ <;> decide +kernel

/-! ## Witnesses: management requests -/

theorem witness_RequestsAreTestedForCodeLengthAndMode :
    (∃ x, (asked sea [0x55#8]).completed 9000 = some x ∧ decide (requestOf x.2.1 = .unknown) = true)
    ∧ (∃ x, (asked sea [0x28#8, 0#8, 0#8]).completed 9000 = some x
        ∧ decide (requestOf x.2.1 = .setCap ∧ x.2.1.length < (requestOf x.2.1).length x.2.1) = true)
    ∧ (∃ x, (asked sea [0x11#8, 10#8, 0#8]).completed 9000 = some x
        ∧ decide (requestOf x.2.1 = .badTable ∧ 9 < u8 x.2.1 1) = true)
    ∧ (∃ x, (asked sea [0x10#8]).completed 9000 = some x
        ∧ decide (requestOf x.2.1 = .badTable ∧ x.2.1.length < 2) = true)
    ∧ (∃ x, (asked (inMode .laidUp sea) [0x12#8]).completed 9000 = some x
        ∧ decide (requestOf x.2.1 = .swapBank ∧ (requestOf x.2.1).needsAwake = true ∧ x.2.2.mgmt.mode = .laidUp
          ∧ (requestOf x.2.1).length x.2.1 ≤ x.2.1.length) = true) := by
  refine ⟨some_of ?_, some_of ?_, some_of ?_, some_of ?_, some_of ?_⟩ <;> decide +kernel

theorem witness_ReadsChangeNothing :
    (∃ source m s2, Completes 9000 .identify source m (asked sea [1#8]) s2 ∧ true = true)
    ∧ (∃ source m s2, Completes 9000 .readStatus source m (asked sea [2#8, 4#8, 15#8]) s2
        ∧ decide (u8 m 1 = 4 ∧ u8 m 2 ≤ 15) = true)
    ∧ (∃ source m s2, Completes 9000 .readStatus source m (asked sea [2#8, 3#8]) s2 ∧ decide (u8 m 1 ≤ 4) = true)
    ∧ (∃ source m s2, Completes 9000 .readStatus source m (asked sea [2#8, 5#8]) s2 ∧ decide (4 < u8 m 1) = true)
    ∧ (∃ source m s2, Completes 9000 .readStatus source m (asked sea [2#8, 4#8, 255#8]) s2
        ∧ decide (u8 m 1 = 4 ∧ ((indices 16).filter (fun k => (s2.transfers.soundings.get k).isSome)).length ≤ u8 m 2)
          = true)
    ∧ (∃ source m s2, Completes 9000 .readRow source m (asked sea [0x11#8, 7#8, 31#8]) s2
        ∧ decide (u8 m 1 = 7 ∧ u8 m 2 ≤ 31) = true)
    ∧ (∃ source m s2, Completes 9000 .readRow source m (asked sea [0x11#8, 0#8, 13#8]) s2
        ∧ decide (u8 m 1 = 0 ∧ u8 m 2 < s2.switch.routes.length) = true)
    ∧ (∃ source m s2, Completes 9000 .readTank source m (asked sea [0x32#8, 15#8]) s2 ∧ decide (u8 m 1 ≤ 15) = true)
    ∧ (∃ source m s2, Completes 9000 .readTransfer source m (asked sea [0x37#8]) s2 ∧ true = true)
    ∧ (∃ source m s2, Completes 9000 .readEvents source m (asked sea [0x40#8, 26#8]) s2 ∧ decide (u8 m 1 ≤ 26) = true)
    ∧ (∃ source m s2, Completes 9000 .readCounters source m (asked sea [0x43#8, 2#8]) s2 ∧ decide (u8 m 1 = 2) = true) := by
  refine ⟨completes_of ?_, completes_of ?_, completes_of ?_, completes_of ?_, completes_of ?_, completes_of ?_, completes_of ?_, completes_of ?_,
    completes_of ?_, completes_of ?_, completes_of ?_⟩ <;> decide +kernel

def be32 (n : Nat) : List Byte := be16 (n / 65536) ++ be16 (n % 65536)

def routeRequest (kind : Byte) : List Byte := [0x10#8, 0#8, 0#8, kind, 255#8, 3#8, 1#8, 255#8, 0#8, 0#8]
def manyRoutes (s : State) : State :=
  s.setRoutes ((List.range 128).map fun n => { entry .speedDemand with kind := 0x20, source := some (n % 126 + 1) })

theorem witness_RouteEntriesLoadByKey :
    (∃ source m s2, Completes 9000 .loadRoute source m (asked sea (routeRequest 0x30#8)) s2
      ∧ ((routeEntryOf s2.node m).isSome && decide (s2.switch.routes.length < 128)) = true)
    ∧ (∃ source m s2, Completes 9000 .loadRoute source m (asked sea (routeRequest 0x20#8)) s2
      ∧ (routeEntryOf s2.node m).any (fun e => s2.switch.routes.any (fun x => x.kind == e.kind && x.source == e.source)) = true)
    ∧ (∃ source m s2, Completes 9000 .loadRoute source m (asked (manyRoutes sea) (routeRequest 0x30#8)) s2
      ∧ ((routeEntryOf s2.node m).any (fun e => s2.switch.routes.all (fun x => !(x.kind == e.kind && x.source == e.source)))
        && decide (128 ≤ s2.switch.routes.length)) = true)
    ∧ (∃ source m s2, Completes 9000 .loadRoute source m (asked sea ((routeRequest 0x30#8).set 5 8#8)) s2
      ∧ (routeEntryOf s2.node m).isNone = true)
    ∧ ([] : List RouteEntry).Pairwise (fun a b => a.key < b.key) := by
  refine ⟨completes_of ?_, completes_of ?_, completes_of ?_, completes_of ?_, .nil⟩ <;> decide +kernel

def stationRequest (i : Byte) : List Byte := [0x10#8, 1#8, i, 14#8, 7#8] ++ be16 2000 ++ be16 200
def groupRequest : List Byte := [0x10#8, 3#8, 1#8] ++ be16 10 ++ be16 30000
def bankRequest (b : Byte) : List Byte := [0x10#8, b, 7#8] ++ beInt16 1000 ++ beInt16 (-1000) ++ beInt16 0
def channelRequest : List Byte := [0x10#8, 9#8, 7#8, 66#8, 1#8] ++ be16 100 ++ be16 0 ++ be16 5000 ++ be16 3000 ++ be16 8450
def actuatorRequest : List Byte :=
  [0x10#8, 4#8, 7#8, 48#8, 2#8, 1#8, 1#8] ++ be16 900 ++ be16 900 ++ be16 900 ++ [1#8, 5#8, 0#8, 0#8, 0#8] ++ be16 200
    ++ be16 1000
def timingRequest (timeout hold : Nat) : List Byte := [0x10#8, 1#8, 4#8] ++ be16 timeout ++ be16 hold

theorem witness_RowLoadsReplaceTheRow :
    (∃ source m s2, Completes 9000 .loadStation source m (asked sea (stationRequest 3#8)) s2
      ∧ ((stationRowOf s2.node m).any (fun row => (indices 4).all (fun j => (s2.intake.stations.get j).all (fun x =>
          decide (j = 3) || decide (x.node ≠ row.node)))) && decide (u8 m 2 = 3)
        && decide (s2.intake.prop.station ≠ some 3 ∧ s2.intake.steer.station ≠ some 3)) = true)
    ∧ (∃ source m s2, Completes 9000 .loadGroup source m (asked sea groupRequest) s2
      ∧ ((groupRowOf m).isSome && decide (u8 m 2 = 1) && decide ((s2.groups.recs.get 1).holdStart = none)) = true)
    ∧ (∃ source m s2, Completes 9000 .loadBank source m (asked sea (bankRequest 6#8)) s2
      ∧ ((gainsOf m).isSome && decide (u8 m 1 = 6 ∧ u8 m 2 = 7 ∧ Bank.B ≠ s2.steering.active)) = true)
    ∧ (∃ source m s2, Completes 9000 .loadChannel source m (asked sea channelRequest) s2
      ∧ ((chanRowOf s2.node m).any (fun row => (indices 8).all (fun j => (s2.fuel.channels.get j).all (fun x =>
          decide (j = 7) || decide (x.node ≠ row.node)))) && decide (u8 m 2 = 7 ∧ s2.channelBusy 7 = false)) = true)
    ∧ (∃ source m s2, Completes 9000 .loadActuator source m (asked sea actuatorRequest) s2
      ∧ ((actRowOf s2.node m).any (fun row => (indices 8).all (fun j => (s2.steering.rows.get j).all (fun x =>
          decide (j = 7) || decide (x.node ≠ row.node)))) && decide (u8 m 2 = 7 ∧ (s2.act 7).state ≠ .tracking)) = true)
    ∧ (∃ source m s2, Completes 9000 .loadTiming source m (asked sea (timingRequest 10000 30000)) s2
      ∧ decide (500 ≤ u16 m 3 ∧ u16 m 3 ≤ 10000 ∧ u16 m 5 ≤ 30000 ∧ s2.intake.prop.loss = .attended
        ∧ s2.now < 8000 + u16 m 3 ∧ s2.intake.prop.lastHeard = some 8000 ∧ s2.intake.steer.lastHeard = some 8000) = true)
    ∧ (∃ source m s2, Completes 9000 .loadTiming source m (asked sea (timingRequest 500 1)) s2
      ∧ decide (u16 m 3 = 500 ∧ u16 m 5 = 1 ∧ s2.intake.prop.loss = .attended ∧ s2.intake.prop.lastHeard = some 8000
        ∧ 8000 + u16 m 3 ≤ s2.now) = true)
    ∧ (∃ source m s2, Completes 9000 .loadTiming source m (asked sea (timingRequest 499 0)) s2
      ∧ decide (¬ (500 ≤ u16 m 3 ∧ u16 m 3 ≤ 10000 ∧ u16 m 5 ≤ 30000)) = true) := by
  refine ⟨completes_of ?_, completes_of ?_, completes_of ?_, completes_of ?_, completes_of ?_, completes_of ?_,
    completes_of ?_, completes_of ?_⟩ <;> decide +kernel

/-- No loaded row but the one at `i` has the node; and some loaded row other than the one at `i` has it. -/
def alone {n : Nat} {α : Type} (node : Nat) (rows : Tab n (Option α)) (f : α → Nat) (i : Fin n) : Bool :=
  (indices n).all (fun j => (rows.get j).all (fun x => decide (j = i) || decide (f x ≠ node)))
def shared {n : Nat} {α : Type} (node : Nat) (rows : Tab n (Option α)) (f : α → Nat) (i : Nat) : Bool :=
  (indices n).any (fun j => (rows.get j).any (fun x => decide (j.val ≠ i) && decide (f x = node)))

theorem witness_RowLoadsReplaceTheRow_refused :
    (∃ source m s2, Completes 9000 .loadStation source m (asked sea (stationRequest 5#8)) s2
      ∧ decide (4 ≤ u8 m 2) = true)
    ∧ (∃ source m s2, Completes 9000 .loadStation source m (asked sea ((stationRequest 3#8).set 3 126#8)) s2
      ∧ (stationRowOf s2.node m).isNone = true)
    ∧ (∃ source m s2, Completes 9000 .loadStation source m (asked sea ((stationRequest 3#8).set 3 10#8)) s2
      ∧ ((stationRowOf s2.node m).any (fun row => shared row.node s2.intake.stations (·.node) (u8 m 2))) = true)
    ∧ (∃ source m s2, Completes 9000 .loadStation source m (asked sea (stationRequest 0#8)) s2
      ∧ ((stationRowOf s2.node m).any (fun row => alone row.node s2.intake.stations (·.node) 0)
        && decide (u8 m 2 = 0 ∧ s2.intake.prop.station = some 0)) = true)
    ∧ (∃ source m s2, Completes 9000 .loadGroup source m (asked sea (groupRequest.set 2 2#8)) s2
      ∧ decide (2 ≤ u8 m 2) = true)
    ∧ (∃ source m s2, Completes 9000 .loadGroup source m (asked sea (groupRequest.set 4 9#8)) s2
      ∧ (groupRowOf m).isNone = true)
    ∧ (∃ source m s2, Completes 9000 .loadBank source m (asked sea (bankRequest 5#8)) s2
      ∧ decide (u8 m 1 = 5 ∧ Bank.A = s2.steering.active) = true)
    ∧ (∃ source m s2, Completes 9000 .loadBank source m (asked sea ((bankRequest 6#8).set 2 8#8)) s2
      ∧ decide (u8 m 1 = 6 ∧ Bank.B ≠ s2.steering.active ∧ 8 ≤ u8 m 2) = true)
    ∧ (∃ source m s2, Completes 9000 .loadBank source m (asked sea ((bankRequest 6#8).set 4 0xE9#8)) s2
      ∧ (decide (Bank.B ≠ s2.steering.active) && (gainsOf m).isNone) = true)
    ∧ (∃ source m s2, Completes 9000 .loadChannel source m (asked sea (channelRequest.set 2 8#8)) s2
      ∧ decide (8 ≤ u8 m 2) = true)
    ∧ (∃ source m s2, Completes 9000 .loadChannel source m (asked sea (channelRequest.set 4 2#8)) s2
      ∧ (chanRowOf s2.node m).isNone = true)
    ∧ (∃ source m s2, Completes 9000 .loadChannel source m (asked sea (channelRequest.set 3 61#8)) s2
      ∧ ((chanRowOf s2.node m).any (fun row => shared row.node s2.fuel.channels (·.node) (u8 m 2))) = true)
    ∧ (∃ source m s2, Completes 9000 .loadChannel source m (asked (active .running sea) (channelRequest.set 2 2#8)) s2
      ∧ ((chanRowOf s2.node m).any (fun row => alone row.node s2.fuel.channels (·.node) 2)
        && decide (u8 m 2 = 2 ∧ s2.transfers.active = some (xfer .running) ∧ (xfer .running).channel = 2)) = true)
    ∧ (∃ source m s2, Completes 9000 .loadActuator source m (asked sea (actuatorRequest.set 2 8#8)) s2
      ∧ decide (8 ≤ u8 m 2) = true)
    ∧ (∃ source m s2, Completes 9000 .loadActuator source m (asked sea (actuatorRequest.set 3 0#8)) s2
      ∧ (actRowOf s2.node m).isNone = true)
    ∧ (∃ source m s2, Completes 9000 .loadActuator source m (asked sea (actuatorRequest.set 3 42#8)) s2
      ∧ ((actRowOf s2.node m).any (fun row => shared row.node s2.steering.rows (·.node) (u8 m 2))) = true)
    ∧ (∃ source m s2, Completes 9000 .loadActuator source m (asked (rudder 7 (fun r => { r with state := .tracking }) sea) actuatorRequest) s2
      ∧ ((actRowOf s2.node m).any (fun row => alone row.node s2.steering.rows (·.node) 7)
        && decide (u8 m 2 = 7 ∧ (s2.act 7).state = .tracking)) = true) := by
  refine ⟨completes_of ?_, completes_of ?_, completes_of ?_, completes_of ?_, completes_of ?_, completes_of ?_,
    completes_of ?_, completes_of ?_, completes_of ?_, completes_of ?_, completes_of ?_, completes_of ?_,
    completes_of ?_, completes_of ?_, completes_of ?_, completes_of ?_, completes_of ?_⟩ <;> decide +kernel

/-- A group hold of 3,000 ms, running since 6,000: none, one and both of the members 101 rpm behind the point. -/
def lagging (ls : List (Fin 4)) : State :=
  ls.foldl (fun s l => lane l (fun r => { r with speed := some 7899 }) s) (together 8000 (some 6000) sea)
def holdRequest : List Byte := [0x10#8, 3#8, 0#8] ++ be16 500 ++ be16 3000
def holdPassed (ls : List (Fin 4)) (m : List Byte) (s2 : State) : Bool :=
  (groupRowOf m).any (fun row => decide (6000 + row.holdLimit ≤ s2.now)) && decide (u8 m 2 = 0)
    && decide ((s2.groups.recs.get 0).holdStart = some 6000 ∧ s2.members 0 = [1, 2]
      ∧ (s2.members 0).filter (fun l => decide (((s2.groups.recs.get 0).tolerance : Int)
        < ((s2.groups.recs.get 0).point : Int) - (((s2.lane l).speed.getD 0 : Nat) : Int))) = ls)

theorem witness_RowLoadsReplaceTheRow_hold_passed :
    (∃ source m s2, Completes 9000 .loadGroup source m (asked (lagging []) holdRequest) s2
      ∧ holdPassed [] m s2 = true)
    ∧ (∃ source m s2, Completes 9000 .loadGroup source m (asked (lagging [2]) holdRequest) s2
      ∧ holdPassed [2] m s2 = true)
    ∧ (∃ source m s2, Completes 9000 .loadGroup source m (asked (lagging [1, 2]) holdRequest) s2
      ∧ holdPassed [1, 2] m s2 = true) := by
  refine ⟨completes_of ?_, completes_of ?_, completes_of ?_⟩ <;> decide +kernel

def laneRequest : List Byte :=
  [0x10#8, 2#8, 0#8, 31#8, 1#8, 0#8, 4#8, 1#8, 255#8] ++ be16 3000 ++ be16 18000 ++ be16 12000 ++ be16 9000 ++ be16 50
    ++ be16 80 ++ be16 200 ++ be16 3000 ++ be16 3000 ++ be16 8000 ++ be16 3000 ++ be16 10000 ++ be16 200 ++ be16 1000
def couplingRequest (soft hard : Nat) : List Byte :=
  [0x10#8, 7#8, 31#8, 58#8, 2#8, 1#8, 2#8] ++ be16 300 ++ be16 20 ++ be16 soft ++ be16 hard ++ be16 500 ++ be16 100
    ++ be16 1000 ++ be32 60000 ++ be32 60000 ++ be16 10000 ++ be16 2000

theorem witness_LaneAndCouplingRowsLoadWithTheirCeilings :
    (∃ source m s2, Completes 9000 .loadLane source m (asked sea laneRequest) s2
      ∧ ((laneRowOf s2.node m).any (fun row => (indices 4).all (fun j => (s2.lanes.rows.get j).all (fun x =>
          decide (j = 0) || decide (x.node ≠ row.node ∧ x.channel ≠ row.channel ∧ (row.home ≠ none → x.home = row.home →
            x.idle = row.idle))))) && decide (u8 m 2 = 0 ∧ (s2.lane 0).state = .unsynced)) = true)
    ∧ (∃ source m s2, Completes 9000 .loadCoupling source m (asked sea (couplingRequest 400 600)) s2
      ∧ ((coupRowOf s2.node m).any (fun row => (indices 32).all (fun j => (s2.couplings.rows.get j).all (fun x =>
          decide (j = 31) || decide (x.node ≠ row.node)))) && decide (u8 m 2 = 31 ∧ (s2.coup 31).state = .unsynced)) = true) := by
  refine ⟨completes_of ?_, completes_of ?_⟩ <;> decide +kernel

theorem witness_LaneAndCouplingRowsLoadWithTheirCeilings_refused :
    (∃ source m s2, Completes 9000 .loadLane source m (asked sea (laneRequest.set 2 4#8)) s2
      ∧ decide (4 ≤ u8 m 2) = true)
    ∧ (∃ source m s2, Completes 9000 .loadLane source m (asked sea (laneRequest.set 3 126#8)) s2
      ∧ (laneRowOf s2.node m).isNone = true)
    ∧ (∃ source m s2, Completes 9000 .loadLane source m (asked sea (laneRequest.set 3 32#8)) s2
      ∧ ((laneRowOf s2.node m).any (fun row => shared row.node s2.lanes.rows (·.node) (u8 m 2))) = true)
    ∧ (∃ source m s2, Completes 9000 .loadLane source m (asked sea (laneRequest.set 7 4#8)) s2
      ∧ ((laneRowOf s2.node m).any (fun row => shared row.channel.val s2.lanes.rows (·.channel.val) (u8 m 2))) = true)
    ∧ (∃ source m s2, Completes 9000 .loadLane source m (asked sea (laneRequest.set 8 0#8)) s2
      ∧ ((laneRowOf s2.node m).any (fun row => decide (row.home = some 0 ∧ row.idle = 3000))
        && decide (s2.lanes.rows.get 1 = some (laneRow 32 .T .main (some 0) 4) ∧ u8 m 2 ≠ 1)) = true)
    ∧ (∃ source m s2, Completes 9000 .loadLane source m (asked (lane 0 neutral sea) laneRequest) s2
      ∧ ((laneRowOf s2.node m).any (fun row => (indices 4).all (fun j => (s2.lanes.rows.get j).all (fun x =>
          decide (j = 0) || decide (x.node ≠ row.node ∧ x.channel ≠ row.channel ∧ row.home = none))))
        && decide (u8 m 2 = 0 ∧ (s2.lane 0).state = .neutral)) = true)
    ∧ (∃ source m s2, Completes 9000 .loadCoupling source m (asked sea ((couplingRequest 400 600).set 2 32#8)) s2
      ∧ decide (32 ≤ u8 m 2) = true)
    ∧ (∃ source m s2, Completes 9000 .loadCoupling source m (asked sea (couplingRequest 600 600)) s2
      ∧ (coupRowOf s2.node m).isNone = true)
    ∧ (∃ source m s2, Completes 9000 .loadCoupling source m (asked sea ((couplingRequest 400 600).set 3 51#8)) s2
      ∧ ((coupRowOf s2.node m).any (fun row => shared row.node s2.couplings.rows (·.node) (u8 m 2))) = true)
    ∧ (∃ source m s2, Completes 9000 .loadCoupling source m (asked (wire 31 fast sea) (couplingRequest 400 600)) s2
      ∧ ((coupRowOf s2.node m).any (fun row => alone row.node s2.couplings.rows (·.node) 31)
        && decide (u8 m 2 = 31 ∧ (s2.coup 31).state = .madeFast)) = true) := by
  refine ⟨completes_of ?_, completes_of ?_, completes_of ?_, completes_of ?_, completes_of ?_, completes_of ?_,
    completes_of ?_, completes_of ?_, completes_of ?_, completes_of ?_⟩ <;> decide +kernel

theorem witness_TheDerateFallsFromSoftToHardLimit :
    ((coupRow 51 .face (some .main)).soft < (coupRow 51 .face (some .main)).hard
      ∧ (coupRow 51 .face (some .main)).floor ≤ 1000)
    ∧ (coupRowOf 126 (couplingRequest 400 600)).isSome = true
    ∧ (∃ source m s2, Completes 9000 .loadCoupling source m (asked sea (couplingRequest 600 600)) s2
      ∧ decide (u16 m 13 ≤ u16 m 11) = true) := by
  refine ⟨?_, ?_, completes_of ?_⟩ <;> decide +kernel

def tankRequest (k kind : Byte) (reserve : Nat) : List Byte :=
  [0x10#8, 8#8, k, kind] ++ be32 50000 ++ be32 reserve ++ be32 200 ++ be32 500 ++ be16 8450 ++ be16 830 ++ [255#8]

theorem witness_TankRowsAndContentsAreSet :
    (∃ source m s2, Completes 9000 .loadTank source m (asked sea (tankRequest 4#8 1#8 2001)) s2
      ∧ ((tankRowOf m).any (fun row => decide (row.kind = .feed ∧ (s2.acct 4).content < ((row.reserve * mgPerKg : Nat) : Int)))
        && decide (u8 m 2 = 4 ∧ s2.tankBusy 4 = false ∧ (s2.acct 4).defined = true)) = true)
    ∧ (∃ source m s2, Completes 9000 .loadTank source m (asked sea (tankRequest 4#8 1#8 1800)) s2
      ∧ ((tankRowOf m).any (fun row => decide (row.kind = .feed
          ∧ (((row.reserve + row.hysteresis) * mgPerKg : Nat) : Int) ≤ (s2.acct 4).content))) = true)
    ∧ (∃ source m s2, Completes 9000 .loadTank source m (asked sea (tankRequest 4#8 0#8 1800)) s2
      ∧ ((tankRowOf m).any (fun row => decide (row.kind ≠ .feed))
        && (s2.fuel.tanks.get 4).any (fun old => decide (old.kind = .feed))) = true)
    ∧ (∃ source m s2, Completes 9000 .loadTank source m (asked sea (tankRequest 15#8 0#8 1800)) s2
      ∧ decide (u8 m 2 = 15 ∧ (s2.acct 15).defined = false ∧ s2.fuel.tanks.get 15 = none) = true)
    ∧ (∃ source m s2, Completes 9000 .openTank source m (asked sea ([0x30#8, 4#8] ++ be32 999)) s2
      ∧ decide (u8 m 1 = 4 ∧ s2.fuel.tanks.get 4 = some (tankRow .feed none) ∧ u32 m 2 ≤ 50000 ∧ s2.tankBusy 4 = false
        ∧ (((u32 m 2 * 1000000 : Nat) : Int) < ((1000 * 1000000 : Nat) : Int))) = true)
    ∧ (∃ source m s2, Completes 9000 .openTank source m (asked sea ([0x30#8, 4#8] ++ be32 1000)) s2
      ∧ decide (((1000 * 1000000 : Nat) : Int) ≤ ((u32 m 2 * 1000000 : Nat) : Int)) = true)
    ∧ (∃ source m s2, Completes 9000 .openTank source m (asked sea ([0x30#8, 2#8] ++ be32 50000)) s2
      ∧ decide (u8 m 1 = 2 ∧ s2.fuel.tanks.get 2 = some (tankRow .storage none) ∧ u32 m 2 ≤ 50000) = true)
    ∧ (∃ source m s2, Completes 9000 .adjustTank source m (asked sea ([0x31#8, 2#8] ++ be32 0)) s2
      ∧ decide (u8 m 1 = 2 ∧ (s2.acct 2).defined = true ∧ s2.tankBusy 2 = false) = true)
    ∧ (∃ source m s2, Completes 9000 .adjustTank source m (asked sea ([0x31#8, 4#8] ++ be32 999)) s2
      ∧ decide (u8 m 1 = 4 ∧ (s2.acct 4).defined = true ∧ (s2.acct 4).atReserve = false
        ∧ ((u32 m 2 * 1000000 : Nat) : Int) < ((1000 * 1000000 : Nat) : Int)) = true) := by
  refine ⟨completes_of ?_, completes_of ?_, completes_of ?_, completes_of ?_, completes_of ?_, completes_of ?_,
    completes_of ?_, completes_of ?_, completes_of ?_⟩ <;> decide +kernel

/-- State.WithinCeilings as a check. -/
def within (s : State) : Bool :=
  (indices 4).all (fun l => (s.lanes.rows.get l).all (fun row =>
    decide ((s.lane l).state.riding = true → (s.lane l).setpoint ≤ s.effCeiling l row)))
  && (indices 2).all (fun g => (s.leastCeiling g).all (fun c => decide ((s.groups.recs.get g).point ≤ c)))

theorem within_of {s : State} (h : within s = true) : s.WithinCeilings := by
  obtain ⟨h1, h2⟩ := Bool.and_eq_true_iff.1 h
  refine ⟨fun l row e => of_decide_eq_true (rows_of h1 l row e), fun g c e => ?_⟩
  have := List.all_eq_true.1 h2 g (mem_indices g)
  rw [e] at this
  exact of_decide_eq_true this

/-- A lane and a group that ride at the reserve cap of 9,000, FUEL_RESERVE posted on every lane. -/
def held : State :=
  let s := lane 0 (ahead 9000) (together 9000 none sea)
  { s with lanes := { s.lanes with ceils := s.lanes.ceils.map (fun c => { c with fuelReserve := some 9000 }) } }

/-- The feed tank 4 with its at-reserve flag set. -/
def low (s : State) : State := s.putAcct 4 { s.acct 4 with atReserve := true }

theorem witness_TankRowsAndContentsAreSet_reserve :
    (∃ source m s2, Completes 9000 .loadTank source m (asked (low sea) (tankRequest 4#8 1#8 1800)) s2
      ∧ ((tankRowOf m).any (fun row => decide (row.kind = .feed ∧ (s2.acct 4).atReserve = true
          ∧ (((row.reserve + row.hysteresis) * 1000000 : Nat) : Int) ≤ (s2.acct 4).content))
        && decide (u8 m 2 = 4 ∧ s2.tankBusy 4 = false)) = true)
    ∧ (∃ source m s2, Completes 9000 .loadTank source m (asked (low sea) (tankRequest 4#8 1#8 1801)) s2
      ∧ ((tankRowOf m).any (fun row => decide (row.kind = .feed
          ∧ (s2.acct 4).content < (((row.reserve + row.hysteresis) * 1000000 : Nat) : Int)))) = true)
    ∧ (∃ source m s2, Completes 9000 .loadTank source m (asked sea (tankRequest 2#8 0#8 2000)) s2
      ∧ ((tankRowOf m).any (fun row => decide (row.kind = .storage)) && decide (u8 m 2 = 2 ∧ (s2.acct 2).defined = true
        ∧ s2.fuel.tanks.get 2 = some (tankRow .storage none))) = true)
    ∧ (∃ source m s2, Completes 9000 .openTank source m (asked held ([0x30#8, 4#8] ++ be32 1000)) s2
      ∧ (within s2 && decide ((s2.acct 4).atReserve = false ∧ (s2.lanes.ceils.get 0).fuelReserve = some 9000
        ∧ (s2.lane 0).setpoint = 9000 ∧ s2.riders 0 = [1, 2] ∧ (s2.groups.recs.get 0).point = 9000)) = true)
    ∧ (∃ source m s2, Completes 9000 .adjustTank source m (asked (low sea) ([0x31#8, 4#8] ++ be32 1200)) s2
      ∧ decide (u8 m 1 = 4 ∧ (s2.acct 4).defined = true ∧ (s2.acct 4).atReserve = true
        ∧ (((1000 + 200) * 1000000 : Nat) : Int) ≤ ((u32 m 2 * 1000000 : Nat) : Int)) = true)
    ∧ (∃ source m s2, Completes 9000 .adjustTank source m (asked (low sea) ([0x31#8, 4#8] ++ be32 1199)) s2
      ∧ decide ((s2.acct 4).atReserve = true
        ∧ ((u32 m 2 * 1000000 : Nat) : Int) < (((1000 + 200) * 1000000 : Nat) : Int)) = true) := by
  refine ⟨completes_of ?_, completes_of ?_, completes_of ?_, completes_of ?_, completes_of ?_,
    completes_of ?_⟩ <;> decide +kernel

theorem witness_TankRowsAndContentsAreSet_refused :
    (∃ source m s2, Completes 9000 .loadTank source m (asked sea ((tankRequest 4#8 1#8 2001).set 2 16#8)) s2
      ∧ decide (16 ≤ u8 m 2) = true)
    ∧ (∃ source m s2, Completes 9000 .loadTank source m (asked sea (tankRequest 4#8 3#8 2001)) s2
      ∧ (tankRowOf m).isNone = true)
    ∧ (∃ source m s2, Completes 9000 .loadTank source m (asked (active .running sea) (tankRequest 3#8 0#8 2001)) s2
      ∧ ((tankRowOf m).isSome && decide (u8 m 2 = 3 ∧ s2.transfers.active = some (xfer .running) ∧ (xfer .running).dest = 3)) = true)
    ∧ (∃ source m s2, Completes 9000 .openTank source m (asked sea ([0x30#8, 16#8] ++ be32 1000)) s2
      ∧ decide (16 ≤ u8 m 1) = true)
    ∧ (∃ source m s2, Completes 9000 .openTank source m (asked sea ([0x30#8, 15#8] ++ be32 0)) s2
      ∧ decide (u8 m 1 = 15 ∧ s2.fuel.tanks.get 15 = none) = true)
    ∧ (∃ source m s2, Completes 9000 .openTank source m (asked sea ([0x30#8, 2#8] ++ be32 50001)) s2
      ∧ decide (u8 m 1 = 2 ∧ s2.fuel.tanks.get 2 = some (tankRow .storage none) ∧ 50000 < u32 m 2) = true)
    ∧ (∃ source m s2, Completes 9000 .openTank source m (asked (active .running sea) ([0x30#8, 2#8] ++ be32 50000)) s2
      ∧ decide (u8 m 1 = 2 ∧ u32 m 2 ≤ 50000 ∧ s2.transfers.active = some (xfer .running) ∧ (xfer .running).source = 2) = true)
    ∧ (∃ source m s2, Completes 9000 .adjustTank source m (asked (sea.putAcct 2 TankAcct.reset) ([0x31#8, 2#8] ++ be32 0)) s2
      ∧ decide (u8 m 1 = 2 ∧ (s2.acct 2).defined = false) = true)
    ∧ (∃ source m s2, Completes 9000 .adjustTank source m (asked sea ([0x31#8, 2#8] ++ be32 50001)) s2
      ∧ decide (u8 m 1 = 2 ∧ s2.fuel.tanks.get 2 = some (tankRow .storage none) ∧ 50000 < u32 m 2) = true)
    ∧ (∃ source m s2, Completes 9000 .adjustTank source m (asked (active .running sea) ([0x31#8, 3#8] ++ be32 50000)) s2
      ∧ decide (u8 m 1 = 3 ∧ (s2.acct 3).defined = true ∧ s2.fuel.tanks.get 3 = some (tankRow .storage none) ∧ u32 m 2 ≤ 50000
        ∧ s2.transfers.active = some (xfer .running) ∧ (xfer .running).dest = 3) = true) := by
  refine ⟨completes_of ?_, completes_of ?_, completes_of ?_, completes_of ?_, completes_of ?_, completes_of ?_,
    completes_of ?_, completes_of ?_, completes_of ?_, completes_of ?_⟩ <;> decide +kernel

/-- Nobody in command, and every coupling in FAULT. -/
def free (s : State) : State :=
  { s with
    intake := { s.intake with prop := { s.intake.prop with station := none }, steer := { s.intake.steer with station := none } }
    couplings := { s.couplings with recs := s.couplings.recs.map (fun r => { r with state := .fault }) } }

theorem witness_ClearTableEmptiesTheTable :
    (∃ source m s2, Completes 9000 .clearRoutes source m (asked sea [0x13#8, 0#8]) s2 ∧ true = true)
    ∧ (∃ source m s2, Completes 9000 .clearStations source m (asked (free sea) [0x13#8, 1#8]) s2
      ∧ decide (s2.intake.prop.station = none ∧ s2.intake.steer.station = none) = true)
    ∧ (∃ source m s2, Completes 9000 .clearLanes source m (asked sea [0x13#8, 2#8]) s2
      ∧ decide (∀ l, s2.lanes.rows.get l ≠ none →
          (s2.lane l).state = .unsynced ∨ (s2.lane l).state = .stopped ∨ (s2.lane l).state = .fault) = true)
    ∧ (∃ source m s2, Completes 9000 .clearGroups source m (asked sea [0x13#8, 3#8]) s2
      ∧ decide (s2.members 0 = [] ∧ s2.members 1 = []) = true)
    ∧ (∃ source m s2, Completes 9000 .clearActuators source m (asked sea [0x13#8, 4#8]) s2
      ∧ decide (∀ a, (s2.act a).state ≠ .tracking) = true)
    ∧ (∃ source m s2, Completes 9000 .clearBank source m (asked sea [0x13#8, 6#8]) s2
      ∧ decide (u8 m 1 = 6 ∧ Bank.B ≠ s2.steering.active) = true)
    ∧ (∃ source m s2, Completes 9000 .clearBank source m (asked sea [0x13#8, 5#8]) s2
      ∧ decide (u8 m 1 = 5 ∧ Bank.A = s2.steering.active) = true)
    ∧ (∃ source m s2, Completes 9000 .clearChannels source m (asked sea [0x13#8, 9#8]) s2
      ∧ decide (s2.transfers.active = none ∧ s2.transfers.waiting = none) = true)
    ∧ (∃ source m s2, Completes 9000 .clearTanks source m (asked sea [0x13#8, 8#8]) s2
      ∧ decide (s2.transfers.active = none ∧ s2.transfers.waiting = none) = true)
    ∧ (∃ source m s2, Completes 9000 .clearCouplings source m
        (asked (rudder 1 (fun r => { r with state := .tracking }) (free sea)) [0x13#8, 7#8]) s2
      ∧ decide ((∀ c, s2.couplings.rows.get c ≠ none →
          (s2.coup c).state = .unsynced ∨ (s2.coup c).state = .released ∨ (s2.coup c).state = .fault)
          ∧ (s2.act 1).state = .tracking ∧ (actRow 42 .flankingRudder 1 [5]).path ≠ []) = true) := by
  refine ⟨completes_of ?_, completes_of ?_, completes_of ?_, completes_of ?_, completes_of ?_, completes_of ?_,
    completes_of ?_, completes_of ?_, completes_of ?_, completes_of ?_⟩ <;> decide +kernel

theorem witness_ClearTableEmptiesTheTable_refused :
    (∃ source m s2, Completes 9000 .clearStations source m (asked sea [0x13#8, 1#8]) s2
      ∧ decide (s2.intake.prop.station ≠ none) = true)
    ∧ (∃ source m s2, Completes 9000 .clearLanes source m (asked (lane 3 neutral sea) [0x13#8, 2#8]) s2
      ∧ decide (s2.lanes.rows.get 3 ≠ none ∧ (s2.lane 3).state = .neutral) = true)
    ∧ (∃ source m s2, Completes 9000 .clearGroups source m (asked (together 8000 none sea) [0x13#8, 3#8]) s2
      ∧ decide (s2.members 0 ≠ []) = true)
    ∧ (∃ source m s2, Completes 9000 .clearActuators source m (asked (rudder 0 (fun r => { r with state := .tracking }) sea) [0x13#8, 4#8]) s2
      ∧ decide ((s2.act 0).state = .tracking) = true)
    ∧ (∃ source m s2, Completes 9000 .clearChannels source m (asked (active .stopping sea) [0x13#8, 9#8]) s2
      ∧ decide (s2.transfers.active ≠ none) = true)
    ∧ (∃ source m s2, Completes 9000 .clearTanks source m (asked (queued (active .suspended sea)) [0x13#8, 8#8]) s2
      ∧ decide (s2.transfers.waiting ≠ none) = true)
    ∧ (∃ source m s2, Completes 9000 .clearCouplings source m (asked (wire 5 fast sea) [0x13#8, 7#8]) s2
      ∧ decide (s2.couplings.rows.get 5 ≠ none ∧ (s2.coup 5).state = .madeFast) = true) := by
  refine ⟨completes_of ?_, completes_of ?_, completes_of ?_, completes_of ?_, completes_of ?_, completes_of ?_,
    completes_of ?_⟩ <;> decide +kernel

def standby (full : Bool) (s : State) : State :=
  { s with steering := { s.steering with complete := full } }

theorem witness_BanksCloseAndSwap :
    (∃ source m s2, Completes 9000 .closeBank source m (asked sea [0x14#8, 2#8]) s2
      ∧ decide ((s2.steering.bankB.rows.filter Option.isSome).length = u8 m 1
        ∧ ∀ a, s2.steering.rows.get a ≠ none → s2.steering.bankB.get a ≠ none) = true)
    ∧ (∃ source m s2, Completes 9000 .closeBank source m (asked sea [0x14#8, 3#8]) s2
      ∧ decide ((s2.steering.bankB.rows.filter Option.isSome).length ≠ u8 m 1) = true)
    ∧ (∃ source m s2, Completes 9000 .swapBank source m (asked (standby true sea) [0x12#8]) s2
      ∧ decide (s2.steering.complete = true ∧ ∀ a, s2.steering.rows.get a ≠ none → s2.steering.bankB.get a ≠ none) = true)
    ∧ (∃ source m s2, Completes 9000 .swapBank source m (asked (standby false sea) [0x12#8]) s2
      ∧ decide (s2.steering.complete = false) = true) := by
  refine ⟨completes_of ?_, completes_of ?_, completes_of ?_, completes_of ?_⟩ <;> decide +kernel

theorem witness_ModeRequestsMoveBetweenTheModes :
    (∃ source m s2, Completes 9000 .engage source m (asked (inMode .passThrough sea) [0x20#8]) s2
      ∧ decide (s2.mgmt.mode = .passThrough ∧ s2.switch.routes ≠ [] ∧ ∃ l, s2.lanes.rows.get l ≠ none) = true)
    ∧ (∃ source m s2, Completes 9000 .wake source m (asked (inMode .laidUp sea) [0x23#8]) s2
      ∧ decide (s2.mgmt.mode = .laidUp) = true)
    ∧ (∃ source m s2, Completes 9000 .layUp source m (asked sea [0x22#8]) s2
      ∧ decide (s2.mgmt.mode = .coordinating ∧ ∀ l, (s2.lane l).state.active = false) = true)
    ∧ (∃ source m s2, Completes 9000 .disengage source m (asked sea [0x21#8]) s2
      ∧ decide (s2.mgmt.mode ≠ .passThrough ∧ s2.transfers.active = none ∧ s2.transfers.waiting = none) = true)
    ∧ (∃ source m s2, Completes 9000 .engage source m (asked sea [0x20#8]) s2 ∧ decide (s2.mgmt.mode = .coordinating) = true)
    ∧ (∃ source m s2, Completes 9000 .engage source m (asked State.reset [0x20#8]) s2
      ∧ decide (s2.mgmt.mode = .passThrough ∧ s2.switch.routes = []) = true)
    ∧ (∃ source m s2, Completes 9000 .wake source m (asked sea [0x23#8]) s2 ∧ decide (s2.mgmt.mode ≠ .laidUp) = true)
    ∧ (∃ source m s2, Completes 9000 .layUp source m (asked (lane 0 (ahead 6000) sea) [0x22#8]) s2
      ∧ decide (∃ l, (s2.lane l).state.active = true) = true)
    ∧ (∃ source m s2, Completes 9000 .disengage source m (asked (active .suspended sea) [0x21#8]) s2
      ∧ decide (s2.transfers.active ≠ none) = true)
    ∧ (∃ source m s2, Completes 9000 .disengage source m (asked (inMode .passThrough sea) [0x21#8]) s2
      ∧ decide (s2.transfers.active = none ∧ s2.transfers.waiting = none ∧ s2.mgmt.mode = .passThrough) = true) := by
  refine ⟨completes_of ?_, completes_of ?_, completes_of ?_, completes_of ?_, completes_of ?_, completes_of ?_,
    completes_of ?_, completes_of ?_, completes_of ?_, completes_of ?_⟩ <;> decide +kernel

theorem witness_TheCapCutsTheSetpointAtOnce :
    (∃ source m s2, Completes 9000 .setCap source m (asked (lane 0 neutral sea) ([0x28#8, 0#8] ++ be16 6000)) s2
      ∧ decide (u8 m 1 = 0 ∧ s2.lanes.rows.get 0 = some (laneRow 31 .M .main none 1) ∧ u16 m 2 = 6000
        ∧ (s2.lane 0).state = .neutral) = true)
    ∧ (∃ source m s2, Completes 9000 .setCap source m (asked (lane 0 (ahead 8000) sea) ([0x28#8, 0#8] ++ be16 0)) s2
      ∧ decide (u16 m 2 = 0 ∧ (s2.lane 0).state = .ahead ∧ (s2.lane 0).inStep = false
        ∧ (s2.lane 0).setpoint ≤ ceilingFor (laneRow 31 .M .main none 1) { s2.lanes.ceils.get 0 with mgmtCap := none } .ahead)
        = true)
    ∧ (∃ source m s2, Completes 9000 .setCap source m (asked (lane 0 (ahead 8000) sea) ([0x28#8, 0#8] ++ be16 7999)) s2
      ∧ decide (u16 m 2 = 7999 ∧ (s2.lane 0).state = .ahead ∧ s2.mgmt.mode = .coordinating
        ∧ ceilingFor (laneRow 31 .M .main none 1) { s2.lanes.ceils.get 0 with mgmtCap := some 7999 } .ahead
          < (s2.lane 0).setpoint) = true) := by
  refine ⟨completes_of ?_, completes_of ?_, completes_of ?_⟩ <;> decide +kernel

/-- A cap asked of lane `l`, in step with its group: what the least ceiling of the riding members then is. -/
def leastOnCap (l : Fin 4) (cap : Nat) (m : List Byte) (s2 : State) (P : Nat → Bool) : Bool :=
  let ceils := s2.lanes.ceils.set l { s2.lanes.ceils.get l with mgmtCap := some cap }
  decide (u8 m 1 = l.val ∧ u16 m 2 = cap ∧ (s2.lane l).inStep = true ∧ (s2.lane l).state.riding = true)
    && (({ s2 with lanes := { s2.lanes with ceils := ceils } } : State).leastCeiling 0).any P

theorem witness_TheCapCutsTheSetpointAtOnce_rampdown_and_groups :
    (∃ source m s2, Completes 9000 .setCap source m (asked (lane 0 (rampdown 8000) sea) ([0x28#8, 0#8] ++ be16 6000)) s2
      ∧ decide (u8 m 1 = 0 ∧ u16 m 2 = 6000 ∧ (s2.lane 0).state = .rampdown ∧ (s2.lane 0).inStep = false
        ∧ (s2.lane 0).setpoint = 8000 ∧ s2.mgmt.mode = .coordinating
        ∧ ceilingFor (laneRow 31 .M .main none 1) { s2.lanes.ceils.get 0 with mgmtCap := some 6000 } .ahead = 6000) = true)
    ∧ (∃ source m s2, Completes 9000 .setCap source m (asked (together 8000 none sea) ([0x28#8, 1#8] ++ be16 8000)) s2
      ∧ leastOnCap 1 8000 m s2 (fun least => decide (8000 ≤ least)) = true)
    ∧ (∃ source m s2, Completes 9000 .setCap source m (asked (together 8000 none sea) ([0x28#8, 1#8] ++ be16 7999)) s2
      ∧ (leastOnCap 1 7999 m s2 (fun least => decide (least < 8000)) && decide (s2.riders 0 = [1, 2])
        && decide ((s2.port .T).egress.length ≤ 16)) = true)
    ∧ (∃ source m s2, Completes 9000 .setCap source m (asked (lane 2 (grouped (rampdown 8000)) (together 8000 none sea)) ([0x28#8, 1#8] ++ be16 6000)) s2
      ∧ (leastOnCap 1 6000 m s2 (fun least => decide (least = 6000)) && decide (s2.riders 0 = [1, 2])
        && decide ((s2.lane 2).state = .rampdown)) = true)
    ∧ (∃ source m s2, Completes 9000 .setCap source m (asked sea ([0x28#8, 4#8] ++ be16 6000)) s2
      ∧ decide (4 ≤ u8 m 1) = true)
    ∧ (∃ source m s2, Completes 9000 .setCap source m (asked { sea with lanes := { sea.lanes with rows := sea.lanes.rows.set 3 none } } ([0x28#8, 3#8] ++ be16 6000)) s2
      ∧ decide (u8 m 1 = 3 ∧ s2.lanes.rows.get 3 = none) = true)
    ∧ (∃ source m s2, Completes 9000 .setCap source m (asked sea ([0x28#8, 0#8] ++ be16 5999)) s2
      ∧ decide (u8 m 1 = 0 ∧ s2.lanes.rows.get 0 = some (laneRow 31 .M .main none 1) ∧ u16 m 2 < 6000) = true)
    ∧ (∃ source m s2, Completes 9000 .setCap source m (asked sea ([0x28#8, 0#8] ++ be16 30001)) s2
      ∧ decide (u8 m 1 = 0 ∧ 30000 < u16 m 2) = true) := by
  refine ⟨completes_of ?_, completes_of ?_, completes_of ?_, completes_of ?_, completes_of ?_, completes_of ?_,
    completes_of ?_, completes_of ?_⟩ <;> decide +kernel

/-- Soundings of the tanks 2, 4 and 9: 40,001 kg against 40,000, 2,000 against 2,000, 30,600 against 30,000. -/
def sounded (s : State) : State :=
  let list := ((s.transfers.soundings.set 2 (some 40001)).set 4 (some 2000)).set 9 (some 30600)
  { s with transfers := { s.transfers with soundings := list } }

theorem witness_ReconciliationHaltsAtTheFirstGap :
    (∃ source m s2, Completes 9000 .sounding source m (asked sea ([0x38#8, 9#8] ++ be32 50000)) s2
      ∧ decide (u8 m 1 = 9 ∧ (s2.acct 9).defined = true ∧ s2.fuel.tanks.get 9 = some (tankRow .barge (some 7))
        ∧ u32 m 2 ≤ 50000) = true)
    ∧ (∃ source m s2, Completes 9000 .reconcile source m (asked (sounded sea) (0x39#8 :: be32 1)) s2
      ∧ decide (u32 m 1 ≤ 500000 ∧ s2.transfers.active = none ∧ s2.transfers.soundings.get 2 = some 40001
        ∧ (((40001 * 1000000 : Nat) : Int) - (s2.acct 2).content).natAbs ≤ u32 m 1 * 1000000
        ∧ s2.transfers.soundings.get 9 = some 30600
        ∧ ¬ (((30600 * 1000000 : Nat) : Int) - (s2.acct 9).content).natAbs ≤ u32 m 1 * 1000000) = true)
    ∧ (∃ source m s2, Completes 9000 .reconcile source m (asked (sounded sea) (0x39#8 :: be32 500000)) s2
      ∧ decide (u32 m 1 = 500000 ∧ s2.transfers.soundings.get 3 = none) = true) := by
  refine ⟨completes_of ?_, completes_of ?_, completes_of ?_⟩ <;> decide +kernel

def transferRequest (src dst : Byte) (amount : Nat) : List Byte :=
  [0x33#8, src, dst] ++ be32 amount ++ [70#8, 1#8, 2#8]

/-- The tests of TRANSFER before the first one named. -/
def passesUpTo (n : Nat) (s : State) (src dst : Fin 16) (amount : Nat) : Bool :=
  (decide (n < 1) || decide (src ≠ dst ∧ s.tankDefined src = true ∧ s.tankDefined dst = true ∧ 1 ≤ amount ∧ amount ≤ 200000)
    && (s.fuel.channels.get 2).any (fun row => decide (row.kind = .transfer)))
  && (decide (n < 2) || !(s.transfers.active.isSome && s.transfers.waiting.isSome))
  && (decide (n < 3) || decide (((amount * 1000000 : Nat) : Int) ≤ (s.acct src).content))
  && (decide (n < 4) || decide (((amount * 1000000 : Nat) : Int) ≤ s.capacityMg dst - (s.acct dst).content))
  && (decide (n < 5) || (s.hoseFast src && s.hoseFast dst))

theorem witness_TransfersAreAdmittedOrRefused :
    (∃ source m s2, Completes 9000 .transfer source m (asked (inMode .passThrough sea) (transferRequest 2#8 3#8 100)) s2
      ∧ decide (u8 m 1 = 2 ∧ u8 m 2 = 3 ∧ u8 m 9 = 2 ∧ u8 m 8 = 1 ∧ s2.mgmt.mode = .passThrough) = true)
    ∧ (∃ source m s2, Completes 9000 .transfer source m (asked sea (transferRequest 2#8 3#8 40000)) s2
      ∧ (passesUpTo 5 s2 2 3 40000 && decide (u32 m 3 = 40000 ∧ s2.transfers.active = none ∧ u8 m 7 = 70)) = true)
    ∧ (∃ source m s2, Completes 9000 .transfer source m (asked (active .running sea) (transferRequest 2#8 3#8 1)) s2
      ∧ (passesUpTo 5 s2 2 3 1 && decide (s2.transfers.active ≠ none ∧ s2.transfers.waiting = none ∧ u8 m 8 = 1)) = true)
    ∧ (∃ source m s2, Completes 9000 .transfer source m (asked sea (transferRequest 2#8 2#8 1)) s2
      ∧ decide (u8 m 1 = 2 ∧ u8 m 2 = 2 ∧ s2.mgmt.mode ≠ .passThrough) = true)
    ∧ (∃ source m s2, Completes 9000 .transfer source m (asked (queued (active .running sea)) (transferRequest 2#8 3#8 1)) s2
      ∧ (passesUpTo 1 s2 2 3 1 && decide (s2.transfers.active ≠ none ∧ s2.transfers.waiting ≠ none ∧ u8 m 1 = 2)) = true)
    ∧ (∃ source m s2, Completes 9000 .transfer source m (asked sea (transferRequest 2#8 3#8 40001)) s2
      ∧ (passesUpTo 2 s2 2 3 40001 && decide (¬ ((u32 m 3 * 1000000 : Nat) : Int) ≤ (s2.acct 2).content)) = true)
    ∧ (∃ source m s2, Completes 9000 .transfer source m (asked sea (transferRequest 9#8 2#8 10001)) s2
      ∧ (passesUpTo 3 s2 9 2 10001 && decide (¬ ((u32 m 3 * 1000000 : Nat) : Int) ≤ s2.capacityMg 2 - (s2.acct 2).content))
        = true)
    ∧ (∃ source m s2, Completes 9000 .transfer source m (asked sea (transferRequest 9#8 2#8 100)) s2
      ∧ (passesUpTo 4 s2 9 2 100 && decide (s2.hoseFast 9 = false ∧ u8 m 1 = 9)) = true)
    ∧ (∃ source m s2, Completes 9000 .transfer source m (asked sea (transferRequest 16#8 3#8 1)) s2
      ∧ decide (u8 m 1 = 16 ∧ s2.mgmt.mode ≠ .passThrough) = true)
    ∧ (∃ source m s2, Completes 9000 .transfer source m (asked sea ((transferRequest 2#8 3#8 1).take 9 ++ [8#8])) s2
      ∧ decide (u8 m 9 = 8) = true)
    ∧ (∃ source m s2, Completes 9000 .transfer source m (asked sea ((transferRequest 2#8 3#8 1).take 8 ++ [3#8, 2#8])) s2
      ∧ decide (u8 m 8 = 3) = true) := by
  refine ⟨completes_of ?_, completes_of ?_, completes_of ?_, completes_of ?_, completes_of ?_, completes_of ?_, completes_of ?_, completes_of ?_, completes_of ?_,
    completes_of ?_, completes_of ?_⟩ <;> decide +kernel

/-- A transfer from the barge whose hose, coupling 7, is not fast. -/
def bargeXfer (st : XferState) (s : State) : State := s.putActive (some { xfer st with source := 9 })

/-- A PENDING record that fails its tests at promotion (R146): the barge's hose is not fast. -/
def queuedBarge (s : State) : State :=
  { s with transfers := { s.transfers with waiting := some { xfer .pending with number := 8, source := 9 } } }

/-- Whether the PENDING record passes the tests of R146. -/
def promoted (s : State) : Bool :=
  s.transfers.waiting.any fun y =>
    s.xferInRange y.source y.dest y.amount y.pumpNode y.channel && (s.xferRefusal y.source y.dest y.amount).isNone

/-- The ATTENTION frame of TRANSFER_CLOSED is due at its next raise, and the queue of B has room for it. -/
def tellsClosed (s : State) : Bool :=
  decide ((s.flag .transferClosed).isSet = false ∧ (s.flag .transferClosed).masked = false ∧ (s.port .B).egress.length ≤ 16)

theorem witness_TransfersSuspendAndResume :
    (∃ source m s2, Completes 9000 .suspendTransfer source m (asked (active .running sea) [0x35#8, 9#8]) s2
      ∧ decide (s2.transfers.active = some (xfer .running) ∧ u8 m 1 = 9 ∧ s2.transfers.waiting = none) = true)
    ∧ (∃ source m s2, Completes 9000 .suspendTransfer source m (asked (queued (active .running sea)) [0x35#8, 8#8]) s2
      ∧ decide (s2.transfers.active = some (xfer .running) ∧ u8 m 1 = 8
        ∧ s2.transfers.waiting = some { xfer .pending with number := 8 }) = true)
    ∧ (∃ source m s2, Completes 9000 .suspendTransfer source m (asked (active .starting sea) [0x35#8, 7#8]) s2
      ∧ decide (s2.transfers.active = some (xfer .starting) ∧ u8 m 1 = 7) = true)
    ∧ (∃ source m s2, Completes 9000 .suspendTransfer source m (asked (active .running sea) [0x35#8, 7#8]) s2
      ∧ decide (s2.transfers.active = some (xfer .running) ∧ u8 m 1 = 7 ∧ s2.mgmt.mode ≠ .passThrough) = true)
    ∧ (∃ source m s2, Completes 9000 .resumeTransfer source m (asked (active .running sea) [0x36#8, 9#8]) s2
      ∧ decide (u8 m 1 = 9 ∧ s2.transfers.waiting = none) = true)
    ∧ (∃ source m s2, Completes 9000 .resumeTransfer source m (asked (queued (active .running sea)) [0x36#8, 8#8]) s2
      ∧ decide (u8 m 1 = 8 ∧ s2.transfers.waiting ≠ none) = true)
    ∧ (∃ source m s2, Completes 9000 .resumeTransfer source m (asked (active .running sea) [0x36#8, 7#8]) s2
      ∧ decide (s2.transfers.active = some (xfer .running) ∧ u8 m 1 = 7) = true)
    ∧ (∃ source m s2, Completes 9000 .resumeTransfer source m (asked (bargeXfer .suspended sea) [0x36#8, 7#8]) s2
      ∧ decide (u8 m 1 = 7 ∧ s2.fuel.tanks.get 9 = some (tankRow .barge (some 7)) ∧ s2.madeFast 7 = false) = true)
    ∧ (∃ source m s2, Completes 9000 .resumeTransfer source m (asked (active .suspended sea) [0x36#8, 7#8]) s2
      ∧ decide (s2.transfers.active = some (xfer .suspended) ∧ u8 m 1 = 7 ∧ s2.mgmt.mode ≠ .passThrough
        ∧ (tankRow .storage none).kind ≠ .barge) = true) := by
  refine ⟨completes_of ?_, completes_of ?_, completes_of ?_, completes_of ?_, completes_of ?_, completes_of ?_,
    completes_of ?_, completes_of ?_, completes_of ?_⟩ <;> decide +kernel

theorem witness_CancelActsByTheRecordsState :
    (∃ source m s2, Completes 9000 .cancelTransfer source m (asked (active .running sea) [0x34#8, 9#8]) s2
      ∧ decide (u8 m 1 = 9 ∧ s2.transfers.waiting = none) = true)
    ∧ (∃ source m s2, Completes 9000 .cancelTransfer source m (asked (queued (active .running sea)) [0x34#8, 8#8]) s2
      ∧ (decide (u8 m 1 = 8 ∧ s2.transfers.waiting = some { xfer .pending with number := 8 }) && tellsClosed s2) = true)
    ∧ (∃ source m s2, Completes 9000 .cancelTransfer source m (asked (active .starting sea) [0x34#8, 7#8]) s2
      ∧ decide (u8 m 1 = 7 ∧ s2.transfers.active = some (xfer .starting) ∧ s2.mgmt.mode ≠ .passThrough) = true)
    ∧ (∃ source m s2, Completes 9000 .cancelTransfer source m (asked (active .suspending sea) [0x34#8, 7#8]) s2
      ∧ decide (u8 m 1 = 7 ∧ s2.transfers.active = some (xfer .suspending)) = true)
    ∧ (∃ source m s2, Completes 9000 .cancelTransfer source m (asked (active .stopping sea) [0x34#8, 7#8]) s2
      ∧ decide (u8 m 1 = 7 ∧ s2.transfers.active = some (xfer .stopping)) = true)
    ∧ (∃ source m s2, Completes 9000 .cancelTransfer source m (asked (active .suspended sea) [0x34#8, 7#8]) s2
      ∧ (decide (u8 m 1 = 7 ∧ s2.transfers.active = some (xfer .suspended) ∧ s2.transfers.waiting = none)
        && tellsClosed s2) = true)
    ∧ (∃ source m s2, Completes 9000 .cancelTransfer source m (asked (queued (active .suspended sea)) [0x34#8, 7#8]) s2
      ∧ (decide (s2.transfers.active = some (xfer .suspended)) && promoted s2) = true)
    ∧ (∃ source m s2, Completes 9000 .cancelTransfer source m (asked (queuedBarge (active .suspended sea)) [0x34#8, 7#8]) s2
      ∧ (decide (s2.transfers.active = some (xfer .suspended) ∧ s2.transfers.waiting ≠ none) && !promoted s2) = true) := by
  refine ⟨completes_of ?_, completes_of ?_, completes_of ?_, completes_of ?_, completes_of ?_, completes_of ?_, completes_of ?_, completes_of ?_⟩
    <;> decide +kernel

theorem witness_EventsLatchAreClearedAndMasked :
    (∃ source m s2, Completes 9000 .clearEvents source m (asked sea (0x41#8 :: be32 5)) s2
      ∧ decide ((s2.port .B).egress.length ≤ 16) = true)
    ∧ (∃ source m s2, Completes 9000 .setMask source m (asked sea (0x42#8 :: be32 5)) s2
      ∧ decide ((s2.port .B).egress.length ≤ 16) = true)
    ∧ NothingDue sea
    ∧ (Event.unrouted ≠ .portCongested ∧ (sea.flag .unrouted).isSet = false ∧ (sea.flag .unrouted).masked = false)
    ∧ (((sea.raise .unrouted (some 1)).flag .unrouted).isSet = true ∧ (State.reset.flag .unrouted).masked = true
      ∧ Event.unrouted ≠ .transferClosed)
    ∧ (((xfer .stopping).closedAs .pumpFault).code = some .pumpFault ∧ (sea.flag .transferClosed).isSet = false
      ∧ (sea.flag .transferClosed).masked = false ∧ (sea.port .B).egress.length < 35
      ∧ ((sea.noteClosed (xfer .closed)).flag .transferClosed).isSet = true
      ∧ (State.reset.flag .transferClosed).masked = true) := by
  refine ⟨completes_of ?_, completes_of ?_, rfl, ?_, ?_, ?_⟩ <;> decide +kernel

/-! ## Witnesses: demand intake -/

def deliversB (p : Port) (k : MsgKind) (s : State) (P : Received → State → Bool) : Bool :=
  match s.delivery 9000 p with
  | some (k', q, s1) => decide (k' = k) && P q s1
  | none => false

theorem delivers_of {p : Port} {k : MsgKind} {s : State} {P : Received → State → Bool} (h : deliversB p k s P = true) :
    ∃ q s1, s.delivery 9000 p = some (k, q, s1) ∧ P q s1 = true := by
  unfold deliversB at h
  split at h
  · next k' q s1 e =>
    simp only [Bool.and_eq_true, decide_eq_true_eq] at h
    exact ⟨q, s1, by rw [e, h.1], h.2⟩
  · cases h

theorem accepts_of {p : Port} {k : MsgKind} {j : Job} {s : State} {P : Received → State → Bool}
    (h : (s.accepted 9000 p k j).any (fun x => P x.1 x.2) = true) :
    ∃ q u, s.accepted 9000 p k j = some (q, u) ∧ P q u = true := by
  obtain ⟨⟨q, u⟩, e, hp⟩ := some_of h
  exact ⟨q, u, e, hp⟩

theorem passes_of {p : Port} {o : CoupOrder} {s : State} {P : Received → State → Bool}
    (h : (s.passed 9000 p o).any (fun x => P x.1 x.2) = true) :
    ∃ q u, s.passed 9000 p o = some (q, u) ∧ P q u = true := by
  obtain ⟨⟨q, u⟩, e, hp⟩ := some_of h
  exact ⟨q, u, e, hp⟩

def speed (source : Nat) : List Byte → State → State := fun d s => given s .B .speedDemand source d

theorem witness_DemandsAreTestedForRightAndCommand :
    (∃ q s1, (speed 13 [0#8, 1#8, 0#8, 0#8] sea).delivery 9000 .B = some (.speedDemand, q, s1)
      ∧ decide (s1.stationOf q.frame.id.source.toNat = none) = true)
    ∧ (∃ q s1, (speed 12 [0#8, 1#8, 0#8, 0#8] sea).delivery 9000 .B = some (.speedDemand, q, s1)
      ∧ decide (s1.stationOf q.frame.id.source.toNat = some 2 ∧ s1.intake.stations.get 2 = some (station 12 false false)
        ∧ (station 12 false false).holds .prop = false) = true)
    ∧ (∃ q s1, (speed 11 [0#8, 1#8, 0#8, 0#8] sea).delivery 9000 .B = some (.speedDemand, q, s1)
      ∧ decide (s1.stationOf q.frame.id.source.toNat = some 1 ∧ s1.intake.stations.get 1 = some (station 11 true true)
        ∧ (station 11 true true).holds .prop = true ∧ (s1.job .prop).station ≠ some 1) = true)
    ∧ (∃ q s1, (speed 10 [0#8, 1#8, 0#8, 0#8] (inMode .laidUp sea)).delivery 9000 .B = some (.speedDemand, q, s1)
      ∧ decide (s1.stationOf q.frame.id.source.toNat = some 0 ∧ (station 10 true false).holds .prop = true
        ∧ (s1.job .prop).station = some 0 ∧ s1.mgmt.mode = .laidUp) = true)
    ∧ (inLoss .lost sea).intake.prop.loss = .lost ∧ sea.intake.prop.loss ≠ .lost := by
  refine ⟨delivers_of ?_, delivers_of ?_, delivers_of ?_, delivers_of ?_, ?_, ?_⟩ <;> decide +kernel

theorem witness_AJobIsHeldThenLost :
    (sea.held = false ∧ (sea.job .prop).loss = .attended ∧ (sea.job .prop).lastHeard = some 8000
      ∧ 8000 + sea.intake.demandTimeout ≤ (sea.at 10000).now ∧ 0 < sea.intake.holdTime)
    ∧ (sea.at 9999).now < 8000 + sea.intake.demandTimeout
    ∧ ((inLoss (.holding 6000) sea).intake.steer.loss = .holding 6000
      ∧ 6000 + sea.intake.holdTime ≤ (sea.at 9000).now
      ∧ ({ inLoss (.holding 6000) sea with steering := { sea.steering with helm := 1 } }).steering.helm ≠ 0)
    ∧ (∃ q s1, (given sea .B .releaseCommand 13 [0#8]).delivery 9000 .B = some (.releaseCommand, q, s1)
      ∧ decide (s1.stationOf q.frame.id.source.toNat = none) = true)
    ∧ (∃ q s1, (given sea .B .releaseCommand 11 [0#8]).delivery 9000 .B = some (.releaseCommand, q, s1)
      ∧ decide (s1.stationOf q.frame.id.source.toNat = some 1 ∧ (s1.job .prop).station ≠ some 1) = true)
    ∧ (∃ q s1, (given sea .B .releaseCommand 10 [1#8]).delivery 9000 .B = some (.releaseCommand, q, s1)
      ∧ decide (s1.stationOf q.frame.id.source.toNat = some 0 ∧ (s1.job .steer).station = some 0
        ∧ (s1.job .steer).loss = .attended ∧ 0 < s1.intake.holdTime) = true)
    ∧ (∃ q s1, (given (inLoss .lost sea) .B .releaseCommand 10 [1#8]).delivery 9000 .B = some (.releaseCommand, q, s1)
      ∧ decide ((s1.job .steer).station = some 0 ∧ (s1.job .steer).loss ≠ .attended) = true) := by
  refine ⟨?_, ?_, ?_, delivers_of ?_, delivers_of ?_, delivers_of ?_, delivers_of ?_⟩ <;> decide +kernel

def take (source : Nat) (j : Byte) (s : State) : State :=
  given s .B .takeCommand source [j, 0#8, 50#8, 0#8, 0#8, 0#8, 0#8, 0#8]

/-- Station 13 with rights and without override. -/
def guest (s : State) : State :=
  { s with intake := { s.intake with stations := s.intake.stations.set 3 (some (station 13 true false)) } }

theorem witness_TakesHandOverCommand :
    (∃ q s1, (take 99 0#8 sea).delivery 9000 .B = some (.takeCommand, q, s1)
      ∧ decide (s1.stationOf q.frame.id.source.toNat = none) = true)
    ∧ (∃ q s1, (take 12 0#8 sea).delivery 9000 .B = some (.takeCommand, q, s1)
      ∧ decide (s1.stationOf q.frame.id.source.toNat = some 2 ∧ s1.intake.stations.get 2 = some (station 12 false false)
        ∧ (station 12 false false).holds .prop = false) = true)
    ∧ (∃ q s1, (take 10 0#8 sea).delivery 9000 .B = some (.takeCommand, q, s1)
      ∧ decide (s1.stationOf q.frame.id.source.toNat = some 0 ∧ (station 10 true false).holds .prop = true
        ∧ (s1.job .prop).station = some 0 ∧ s1.intake.prop.loss ≠ .lost) = true)
    ∧ (∃ q s1, (take 11 0#8 sea).delivery 9000 .B = some (.takeCommand, q, s1)
      ∧ decide (s1.stationOf q.frame.id.source.toNat = some 1 ∧ (s1.job .prop).station ≠ some 1
        ∧ (station 11 true true).override = true ∧ s1.intake.prop.loss ≠ .lost) = true)
    ∧ (∃ q s1, (take 13 1#8 (guest sea)).delivery 9000 .B = some (.takeCommand, q, s1)
      ∧ decide (s1.stationOf q.frame.id.source.toNat = some 3
        ∧ s1.leversMatch (station 13 true false) .steer q.frame.data = true) = true)
    ∧ (∃ q s1, (take 11 0#8 (inLoss .lost sea)).delivery 9000 .B = some (.takeCommand, q, s1)
      ∧ decide (s1.intake.prop.loss = .lost ∧ (station 11 true true).override = true) = true)
    ∧ (∃ q s1, (take 13 0#8 (guest (lane 0 (ahead 8000) sea))).delivery 9000 .B = some (.takeCommand, q, s1)
      ∧ decide (s1.stationOf q.frame.id.source.toNat = some 3 ∧ (s1.job .prop).station = some 0
        ∧ (station 13 true false).override = false
        ∧ s1.leversMatch (station 13 true false) .prop q.frame.data = false) = true) := by
  refine ⟨delivers_of ?_, delivers_of ?_, delivers_of ?_, delivers_of ?_, delivers_of ?_, delivers_of ?_, delivers_of ?_⟩
    <;> decide +kernel

theorem witness_SummariesGoOutEachSecond :
    NothingDue sea ∧ (sea.held = false ∧ (sea.port .B).egress.length ≤ 26 ∧ sea.intake.stateAt ≤ (sea.at 9500).now
      ∧ sea.lanes.rows.get 0 = some (laneRow 31 .M .main none 1) ∧ (sea.lane 0).summaryAt ≤ (sea.at 9500).now
      ∧ sea.steering.summaryAt ≤ (sea.at 9500).now ∧ sea.couplings.rows.get 7 ≠ none
      ∧ (sea.coup 7).summaryAt ≤ (sea.at 9500).now ∧ (sea.at 9499).now < sea.intake.stateAt) := by
  refine ⟨rfl, ?_⟩
  decide +kernel

/-! ## Witnesses: lanes and step groups -/

theorem witness_LaneDemandsRefreshOrChangeTheTarget :
    (∃ q u, (speed 10 [0#8, 1#8, 0x1F#8, 0x40#8] (lane 0 (ahead 8000) sea)).accepted 9000 .B .speedDemand .prop = some (q, u)
      ∧ decide (u8 q.frame.data 0 = 0 ∧ u.lanes.rows.get 0 = some (laneRow 31 .M .main none 1)
        ∧ u.laneRefusal 0 (laneRow 31 .M .main none 1) .ahead false = none
        ∧ (u.lane 0).targetDir = .ahead ∧ (u.lane 0).targetSpeed = min 18000 (max 6000 (u16 q.frame.data 2))) = true)
    ∧ (∃ q u, (given (lane 1 (grouped (ahead 8000)) sea) .B .neutralDemand 10 [1#8]).accepted 9000 .B .neutralDemand .prop
        = some (q, u)
      ∧ decide (u8 q.frame.data 0 = 1 ∧ (u.lane 1).inStep = true ∧ ((u.leaveGroup 1).lane 1).targetDir ≠ .neutral
        ∧ u.laneRefusal 1 (laneRow 32 .T .main (some 0) 4) .neutral false = none) = true)
    ∧ (∃ q u, (given (lane 0 neutral sea) .B .kickDemand 10 [0#8, 2#8, 0x1F#8, 0x40#8, 31#8]).accepted 9000 .B .kickDemand
        .prop = some (q, u)
      ∧ decide (u.laneRefusal 0 (laneRow 31 .M .main none 1) .astern true = none ∧ (u.lane 0).targetDir = .neutral) = true)
    ∧ ((sea.lane 0).state = .unsynced ∧ ((lane 0 neutral sea).lane 0).state.ordered = true
      ∧ (lane 0 (fun r => { r with state := .stopped }) sea).lane 0 = { sea.lane 0 with state := .stopped })
    ∧ ((wire 0 (inState .releasing) sea).boatReleasing .main = true ∧ sea.boatReleasing .assist = false
      ∧ sea.assistCoupled = false ∧ (wire 6 fast sea).assistCoupled = true)
    ∧ (∃ q u, (given sea .B .neutralDemand 10 [0#8]).accepted 9000 .B .neutralDemand .prop = some (q, u)
      ∧ decide (u8 q.frame.data 0 = 0
        ∧ u.laneRefusal 0 (laneRow 31 .M .main none 1) .neutral false = some .laneFault) = true)
    ∧ (∃ q u, (given ({ sea with lanes := { sea.lanes with rows := sea.lanes.rows.set 3 none } }) .B .neutralDemand 10
        [3#8]).accepted 9000 .B .neutralDemand .prop = some (q, u)
      ∧ decide (u8 q.frame.data 0 = 3 ∧ u.lanes.rows.get 3 = none) = true)
    ∧ (∃ q u, (given (lane 0 neutral sea) .B .kickDemand 10 [0#8, 1#8, 0#8, 0#8, 5#8]).accepted 9000 .B .kickDemand .prop
        = some (q, u)
      ∧ decide (u8 q.frame.data 1 = 1 ∧ u16 q.frame.data 2 = 0
        ∧ u.laneRefusal 0 (laneRow 31 .M .main none 1) .ahead true = none ∧ (u.lane 0).targetDir ≠ .ahead) = true)
    ∧ (∃ q u, (speed 10 [4#8, 1#8, 0#8, 0#8] sea).accepted 9000 .B .speedDemand .prop = some (q, u)
      ∧ decide (4 ≤ u8 q.frame.data 0) = true)
    ∧ (∃ q u, (speed 10 [0#8, 1#8, 0x1F#8, 0x40#8] (lane 0 (fun r => { r with state := .stopped }) sea)).accepted 9000 .B
        .speedDemand .prop = some (q, u)
      ∧ decide (u8 q.frame.data 0 = 0
        ∧ u.laneRefusal 0 (laneRow 31 .M .main none 1) .ahead false = some .notRunning) = true)
    ∧ (∃ q u, (given (lane 0 (rampdown 7000) sea) .B .kickDemand 10 [0#8, 2#8, 0x1F#8, 0x40#8, 5#8]).accepted 9000 .B
        .kickDemand .prop = some (q, u)
      ∧ decide (u8 q.frame.data 0 = 0
        ∧ u.laneRefusal 0 (laneRow 31 .M .main none 1) .astern true = some .kickReversal) = true) := by
  refine ⟨accepts_of ?_, accepts_of ?_, accepts_of ?_, ?_, ?_, accepts_of ?_, accepts_of ?_, accepts_of ?_, accepts_of ?_,
    accepts_of ?_, accepts_of ?_⟩ <;> decide +kernel

/-- R58: a KICK_DEMAND of speed 0 takes its direction at idle speed; a SPEED_DEMAND of speed 0 is NEUTRAL. -/
theorem test_a_kick_of_speed_0_takes_its_direction_at_idle :
    let kicked := (after (.kickDemand 9000 .B) (given (lane 0 neutral sea) .B .kickDemand 10 [0#8, 1#8, 0#8, 0#8, 5#8])).lane 0
    let sped := (after (.speedDemand 9000 .B) (given (lane 0 (ahead 6000) sea) .B .speedDemand 10 [0#8, 1#8, 0#8, 0#8])).lane 0
    (kicked.targetDir = .ahead ∧ kicked.targetSpeed = 6000) ∧ (sped.targetDir = .neutral ∧ sped.targetSpeed = 0) := by
  decide +kernel

theorem witness_CrashAsternReversesEveryLaneItAppliesTo :
    ∃ q u, (given (lane 0 (ahead 8000) (lane 1 (grouped engaging) sea)) .B .crashAstern 10 []).accepted 9000 .B .crashAstern
        .prop = some (q, u)
      ∧ decide ((u.lane 0).state.ordered = true ∧ u.boatReleasing .main = false ∧ (u.lane 1).inStep = true
        ∧ (u.lane 2).state.ordered = false) = true := by
  refine accepts_of ?_
  decide +kernel

def engine (d : List Byte) (s : State) : State := given s .M .engineStatus 31 d

/-- What every clause about an adopted lane finds. -/
def unsynced (q : Received) (s1 : State) : Bool :=
  decide (s1.laneOf q.frame.id.source.toNat = some 0 ∧ s1.lanes.rows.get 0 = some (laneRow 31 .M .main none 1)
    ∧ s1.mgmt.mode = .coordinating ∧ (s1.lane 0).state = .unsynced ∧ s1.boatReleasing .main = false
    ∧ (s1.lane 0).inStep = false)

theorem witness_EngineStatusAdoptsALane :
    (∃ q s1, (engine [3#8, 0#8, 0#8, 0#8] sea).delivery 9000 .M = some (.engineStatus, q, s1)
      ∧ (unsynced q s1 && decide ((engineReport q.frame.data).localMode = true)) = true)
    ∧ (∃ q s1, (engine [1#8, 3#8, 0#8, 0#8] sea).delivery 9000 .M = some (.engineStatus, q, s1)
      ∧ (unsynced q s1 && decide ((engineReport q.frame.data).running = true ∧ (engineReport q.frame.data).gear = none)) = true)
    ∧ (∃ q s1, (engine [0#8, 0#8, 0#8, 0#8] sea).delivery 9000 .M = some (.engineStatus, q, s1)
      ∧ (unsynced q s1 && decide ((engineReport q.frame.data).running = false)) = true)
    ∧ (∃ q s1, (engine [1#8, 0#8, 0#8, 0#8] sea).delivery 9000 .M = some (.engineStatus, q, s1)
      ∧ (unsynced q s1 && decide ((engineReport q.frame.data).gear = some .neutral)) = true)
    ∧ (∃ q s1, (engine [1#8, 2#8, 0x17#8, 0x71#8] sea).delivery 9000 .M = some (.engineStatus, q, s1)
      ∧ (unsynced q s1 && decide ((engineReport q.frame.data).gear = some .astern
        ∧ (engineReport q.frame.data).speed = 6001)) = true)
    ∧ (∃ q s1, (engine [1#8, 1#8, 0x17#8, 0x71#8] (wire 0 (fun r => { inState .releasing r with releaser := some 10 }) sea)).delivery
        9000 .M = some (.engineStatus, q, s1)
      ∧ decide (s1.boatReleasing .main = true ∧ (s1.lane 0).state = .unsynced
        ∧ (engineReport q.frame.data).gear = some .ahead ∧ s1.couplings.rows.get 0 = some (coupRow 51 .face (some .main))
        ∧ (s1.coup 0).state = .releasing ∧ (s1.coup 0).releaser = some 10 ∧ (s1.coup 5).state ≠ .releasing) = true) := by
  refine ⟨delivers_of ?_, delivers_of ?_, delivers_of ?_, delivers_of ?_, delivers_of ?_, delivers_of ?_⟩
    <;> decide +kernel

/-- What every clause about a lane under orders finds. -/
def ordered (q : Received) (s1 : State) : Bool :=
  decide (s1.laneOf q.frame.id.source.toNat = some 0 ∧ s1.lanes.rows.get 0 = some (laneRow 31 .M .main none 1)
    ∧ s1.mgmt.mode = .coordinating ∧ s1.boatReleasing .main = false ∧ (s1.lane 0).inStep = false
    ∧ (s1.lane 0).state.ordered = true)

def inFault (why : LaneCause) (r : LaneRec) : LaneRec := (ahead 8000 r).faulted why

theorem witness_EngineStatusConfirmsFaultsAndRecovers :
    (∃ q s1, (engine [1#8, 3#8, 0#8, 0#8] (lane 0 neutral sea)).delivery 9000 .M = some (.engineStatus, q, s1)
      ∧ (ordered q s1 && decide ((s1.lane 0).state = .neutral ∧ (engineReport q.frame.data).gear = none)) = true)
    ∧ (∃ q s1, (engine [1#8, 1#8, 0#8, 0#8] (lane 0 declutch sea)).delivery 9000 .M = some (.engineStatus, q, s1)
      ∧ (ordered q s1 && decide ((s1.lane 0).state = .declutch
        ∧ (engineReport q.frame.data).gear = (s1.lane 0).lastEngaged)) = true)
    ∧ (∃ q s1, (engine [1#8, 1#8, 0#8, 0#8] (lane 0 (rampdown 7000) sea)).delivery 9000 .M = some (.engineStatus, q, s1)
      ∧ (ordered q s1 && decide ((engineReport q.frame.data).gear = some (s1.lane 0).gear)) = true)
    ∧ (∃ q s1, (engine [1#8, 1#8, 0#8, 0#8] (lane 0 engaging sea)).delivery 9000 .M = some (.engineStatus, q, s1)
      ∧ (ordered q s1 && decide ((s1.lane 0).state = .engaging ∧ (engineReport q.frame.data).gear = some (s1.lane 0).gear
        ∧ (s1.lane 0).gear ≠ .neutral)) = true)
    ∧ (∃ q s1, (engine [1#8, 0#8, 0#8, 0#8] (lane 0 declutch sea)).delivery 9000 .M = some (.engineStatus, q, s1)
      ∧ (ordered q s1 && decide ((s1.lane 0).state = .declutch ∧ (engineReport q.frame.data).gear = some .neutral)) = true)
    ∧ (∃ q s1, (engine [1#8, 2#8, 0#8, 0#8] (lane 0 neutral sea)).delivery 9000 .M = some (.engineStatus, q, s1)
      ∧ (ordered q s1 && decide ((s1.lane 0).state = .neutral ∧ (engineReport q.frame.data).gear = some .astern)) = true)
    ∧ (∃ q s1, (engine [1#8, 2#8, 0#8, 0#8] (inMode .laidUp sea)).delivery 9000 .M = some (.engineStatus, q, s1)
      ∧ decide (s1.mgmt.mode ≠ .coordinating) = true)
    ∧ (∃ q s1, (engine [2#8, 2#8, 0#8, 0#8] (lane 0 neutral sea)).delivery 9000 .M = some (.engineStatus, q, s1)
      ∧ (ordered q s1 && decide ((engineReport q.frame.data).localMode = true)) = true)
    ∧ (∃ q s1, (engine [0#8, 2#8, 0#8, 0#8] (lane 0 (ahead 8000) sea)).delivery 9000 .M = some (.engineStatus, q, s1)
      ∧ (ordered q s1 && decide ((engineReport q.frame.data).localMode = false ∧ (engineReport q.frame.data).running = false))
        = true)
    ∧ (∃ q s1, (engine [2#8, 2#8, 0#8, 0#8] (lane 0 (inFault .gearMismatch) sea)).delivery 9000 .M = some (.engineStatus, q, s1)
      ∧ decide ((s1.lane 0).state = .fault ∧ (engineReport q.frame.data).localMode = true) = true)
    ∧ (∃ q s1, (engine [1#8, 3#8, 0#8, 0#8] (lane 0 (inFault .gearMismatch) sea)).delivery 9000 .M = some (.engineStatus, q, s1)
      ∧ decide ((s1.lane 0).state = .fault ∧ (s1.lane 0).cause = some .gearMismatch
        ∧ (engineReport q.frame.data).gear = none) = true)
    ∧ (∃ q s1, (engine [1#8, 0#8, 0#8, 0#8] (lane 0 (inFault .statusLost) sea)).delivery 9000 .M = some (.engineStatus, q, s1)
      ∧ decide ((s1.lane 0).state = .fault ∧ (engineReport q.frame.data).gear = some .neutral
        ∧ s1.laneOf q.frame.id.source.toNat = some 0 ∧ s1.mgmt.mode = .coordinating) = true) := by
  refine ⟨delivers_of ?_, delivers_of ?_, delivers_of ?_, delivers_of ?_, delivers_of ?_, delivers_of ?_, delivers_of ?_,
    delivers_of ?_, delivers_of ?_, delivers_of ?_, delivers_of ?_, delivers_of ?_⟩ <;> decide +kernel

/-- What the clauses about a lane in STOPPED or FAULT find. -/
def parked (st : LaneState) (q : Received) (s1 : State) : Bool :=
  decide (s1.laneOf q.frame.id.source.toNat = some 0 ∧ s1.lanes.rows.get 0 = some (laneRow 31 .M .main none 1)
    ∧ s1.mgmt.mode = .coordinating ∧ s1.boatReleasing .main = false ∧ (s1.lane 0).inStep = false ∧ (s1.lane 0).state = st)

def halted (r : LaneRec) : LaneRec := { r with state := .stopped, statusTimer := some 9500 }

theorem witness_EngineStatusOfAParkedLane :
    (∃ q s1, (engine [0#8, 0#8, 0#8, 0#8] (lane 0 halted sea)).delivery 9000 .M = some (.engineStatus, q, s1)
      ∧ (parked .stopped q s1 && decide ((engineReport q.frame.data).running = false)) = true)
    ∧ (∃ q s1, (engine [3#8, 0#8, 0#8, 0#8] (lane 0 halted sea)).delivery 9000 .M = some (.engineStatus, q, s1)
      ∧ (parked .stopped q s1 && decide ((engineReport q.frame.data).localMode = true)) = true)
    ∧ (∃ q s1, (engine [1#8, 3#8, 0#8, 0#8] (lane 0 halted sea)).delivery 9000 .M = some (.engineStatus, q, s1)
      ∧ (parked .stopped q s1 && decide ((engineReport q.frame.data).running = true
        ∧ (engineReport q.frame.data).gear = none)) = true)
    ∧ (∃ q s1, (engine [1#8, 0#8, 0#8, 0#8] (lane 0 halted sea)).delivery 9000 .M = some (.engineStatus, q, s1)
      ∧ (parked .stopped q s1 && decide ((engineReport q.frame.data).gear = some .neutral)) = true)
    ∧ (∃ q s1, (engine [1#8, 2#8, 0x2E#8, 0xE1#8] (lane 0 halted sea)).delivery 9000 .M = some (.engineStatus, q, s1)
      ∧ (parked .stopped q s1 && decide ((engineReport q.frame.data).gear = some .astern)) = true)
    ∧ (∃ q s1, (engine [0#8, 1#8, 0#8, 0#8] (lane 0 (inFault .gearMismatch) sea)).delivery 9000 .M
        = some (.engineStatus, q, s1)
      ∧ (parked .fault q s1 && decide ((engineReport q.frame.data).localMode = false
        ∧ (engineReport q.frame.data).running = false)) = true)
    ∧ (∃ q s1, (engine [1#8, 1#8, 0#8, 0#8] (lane 0 (inFault .gearMismatch) sea)).delivery 9000 .M
        = some (.engineStatus, q, s1)
      ∧ (parked .fault q s1 && decide ((engineReport q.frame.data).gear = some .ahead)) = true)
    ∧ (∃ q s1, (engine [1#8, 3#8, 0#8, 0#8] (lane 0 (inFault .statusLost) sea)).delivery 9000 .M
        = some (.engineStatus, q, s1)
      ∧ (parked .fault q s1 && decide ((s1.lane 0).cause = some .statusLost
        ∧ (engineReport q.frame.data).gear = none)) = true) := by
  refine ⟨delivers_of ?_, delivers_of ?_, delivers_of ?_, delivers_of ?_, delivers_of ?_, delivers_of ?_, delivers_of ?_,
    delivers_of ?_⟩ <;> decide +kernel

/-- Lane 2 in step at the group point 8,000, lane 1 ENGAGING in step, its node reporting gear AHEAD. -/
def joining (s : State) : State :=
  given (group { GroupRec.reset with targetDir := .ahead, targetSpeed := 9000, point := 8000, rampTimer := some 9000 }
    (lane 1 (grouped engaging) (lane 2 (grouped (ahead 8000)) s))) .T .engineStatus 32 [1#8, 1#8, 0x17#8, 0x70#8]

def capped (v : Nat) (s : State) : State :=
  { s with lanes := { s.lanes with ceils := s.lanes.ceils.set 1 { Ceilings.empty with mgmtCap := some v } } }

/-- What the clause about a lane confirmed in step finds, and the least ceiling of the lanes that ride then. -/
def joins (least : Nat) (q : Received) (s1 : State) : Bool :=
  decide (s1.laneOf q.frame.id.source.toNat = some 1 ∧ s1.lanes.rows.get 1 = some (laneRow 32 .T .main (some 0) 4)
    ∧ s1.mgmt.mode = .coordinating ∧ (s1.lane 1).state = .engaging ∧ (s1.lane 1).inStep = true
    ∧ (engineReport q.frame.data).localMode = false ∧ (engineReport q.frame.data).running = true
    ∧ (engineReport q.frame.data).gear = some (s1.lane 1).gear ∧ (s1.lane 1).gear ≠ .neutral
    ∧ (s1.groups.recs.get 0).point = 8000 ∧ s1.riders 0 = [2]
    ∧ min (ceilingFor (laneRow 32 .T .main (some 0) 4) (s1.lanes.ceils.get 1) .ahead)
        (ceilingFor (laneRow 33 .M .main (some 0) 5) (s1.lanes.ceils.get 2) .ahead) = least)

theorem witness_EngineStatusConfirmsALaneInStep :
    (∃ q s1, (joining sea).delivery 9000 .T = some (.engineStatus, q, s1) ∧ (joins 18000 q s1 && decide (8000 ≤ 18000)) = true)
    ∧ (∃ q s1, (joining (capped 7000 sea)).delivery 9000 .T = some (.engineStatus, q, s1)
      ∧ (joins 7000 q s1 && decide (7000 ≤ 8000)) = true) := by
  refine ⟨delivers_of ?_, delivers_of ?_⟩ <;> decide +kernel

/-- R67, R88, R89: the lane confirmed in step stands at the group point in the same event; a ceiling of its own that lies
lower cuts the point for both. -/
theorem test_a_lane_confirmed_in_step_takes_the_group_point :
    ((after (.engineStatus 9000 .T) (joining sea)).lane 1).setpoint = 8000
      ∧ ((after (.engineStatus 9000 .T) (joining (capped 7000 sea))).lane 1).setpoint = 7000
      ∧ ((after (.engineStatus 9000 .T) (joining (capped 7000 sea))).lane 2).setpoint = 7000 := by decide +kernel

def waiting (r : LaneRec) : LaneRec :=
  { neutral r with pending := some { dir := .astern, speed := 7000, kick := none }, dwellTimer := some 9000 }

theorem witness_LaneTimersFaultOrMoveTheLane :
    sea.held = false ∧ sea.lanes.rows.get 0 = some (laneRow 31 .M .main none 1) ∧ sea.mgmt.mode = .coordinating
    ∧ 9000 ≤ (sea.at 9000).now
    ∧ (((lane 0 (ahead 8000) sea).lane 0).statusTimer = some 9000 ∧ ((lane 0 (ahead 8000) sea).lane 0).state ≠ .unsynced
      ∧ ((lane 0 (ahead 8000) sea).lane 0).state ≠ .fault)
    ∧ (((lane 0 engaging sea).lane 0).clutchTimer = some 9000 ∧ ((lane 0 engaging sea).lane 0).state = .engaging)
    ∧ (((lane 0 declutch sea).lane 0).neutralTimer = some 9000 ∧ ((lane 0 declutch sea).lane 0).state = .declutch)
    ∧ (((lane 0 waiting sea).lane 0).state = .neutral ∧ ((lane 0 waiting sea).lane 0).dwellTimer = some 9000
      ∧ ((lane 0 waiting sea).lane 0).pending ≠ none ∧ (lane 0 waiting sea).boatReleasing .main = false)
    ∧ (((lane 0 (fun r => { ahead 8000 r with kickTimer := some 9000 }) sea).lane 0).kickTimer = some 9000
      ∧ ((lane 0 (ahead 8000) sea).lane 0).gear ≠ .neutral) := by
  decide +kernel

theorem witness_RampStepsAndRefreshesAreOrdered :
    sea.held = false ∧ sea.lanes.rows.get 0 = some (laneRow 31 .M .main none 1) ∧ sea.mgmt.mode = .coordinating
    ∧ ((lane 0 (ahead 8000) sea).lane 0).rampTimer = some 9000 ∧ 9000 ≤ (sea.at 9000).now
    ∧ ((lane 0 (ahead 8000) sea).lane 0).setpoint = ((lane 0 (ahead 8000) sea).lane 0).targetSpeed
    ∧ ((lane 0 (fun r => { ahead 8000 r with targetSpeed := 8001 }) sea).lane 0).setpoint < 8001
    ∧ (((lane 0 (rampdown 6080) sea).lane 0).state = .rampdown ∧ 6080 - (laneRow 31 .M .main none 1).rampDown = 6000)
    ∧ (((lane 0 (ahead 8000) sea).lane 0).refreshTimer = some 9000
      ∧ ((lane 0 (ahead 8000) sea).lane 0).state.ordered = true) := by
  decide +kernel

theorem witness_GroupDemandsGatherTheEligibleLanes :
    (∃ q u, (given (together 8000 none sea) .B .groupDemand 10 [0#8, 1#8, 0x23#8, 0x28#8]).accepted 9000 .B .groupDemand .prop
        = some (q, u)
      ∧ (decide (u8 q.frame.data 0 = 0 ∧ u.groups.rows.get 0 = some { tolerance := 100, holdLimit := 3000 }
        ∧ u.homeMembers 0 ≠ [] ∧ (u.groups.recs.get 0).targetDir = .ahead
        ∧ (u.groups.recs.get 0).targetSpeed = max (u16 q.frame.data 2) (u.groupIdle 0))
        && decide (∀ l, (u.lane l).targetDir = .neutral → (u.lane l).pending = none)) = true)
    ∧ (∃ q u, (given (together 8000 none sea) .B .groupDemand 10 [0#8, 2#8, 0x23#8, 0x28#8]).accepted 9000 .B .groupDemand .prop
        = some (q, u)
      ∧ (decide (u8 q.frame.data 0 = 0 ∧ u.homeMembers 0 ≠ [] ∧ (u.groups.recs.get 0).targetDir ≠ .astern
          ∧ u.eligible 0 .astern 1 = true)
        && decide (∀ l, (u.lane l).targetDir = .neutral → (u.lane l).pending = none)) = true) := by
  refine ⟨accepts_of ?_, accepts_of ?_⟩ <;> decide +kernel

theorem witness_TheGroupPointMovesAndLaggardsLeave :
    let late (s : State) := lane 2 (fun r => { r with speed := some 7899 }) s
    (sea.held = false ∧ (together 8000 none sea).groups.rows.get 0 = some { tolerance := 100, holdLimit := 3000 }
      ∧ ((together 8000 none sea).groups.recs.get 0).rampTimer = some 9000 ∧ 9000 ≤ (sea.at 9000).now
      ∧ (together 8000 none sea).members 0 ≠ [])
    ∧ ((late (together 8000 none sea)).phase 0 = .running ∧ 2 ∈ (late (together 8000 none sea)).members 0
      ∧ (100 : Int) < (8000 : Int) - ((((late (together 8000 none sea)).lane 2).speed.getD 0 : Nat) : Int))
    ∧ ((together 8000 none sea).phase 0 = .running ∧ 8000 < 9000)
    ∧ ((together 9000 none sea).phase 0 = .running ∧ (together 9000 none sea).leastCeiling 0 = some 18000)
    ∧ ((lane 2 (grouped neutral) (together 8000 none sea)).phase 0 = .gathering
      ∧ (lane 2 (grouped neutral) (together 8000 none sea)).groupIdle 0 < 8000)
    ∧ ((lane 2 (grouped neutral) (together 6000 none sea)).phase 0 = .gathering
      ∧ 6000 ≤ (lane 2 (grouped neutral) (together 6000 none sea)).groupIdle 0)
    ∧ (((late (together 8000 (some 6000) sea)).groups.recs.get 0).holdStart = some 6000 ∧ 6000 + 3000 ≤ (sea.at 9000).now
      ∧ ((late (together 8000 (some 6000) sea)).groups.recs.get 0).tolerance = 100
      ∧ 1 ∈ (late (together 8000 (some 6000) sea)).members 0) := by
  decide +kernel

/-- R81: a step tolerance loaded since the last ramp expiry is not in force as the hold expires: lane 2, 101 rpm behind,
leaves under the old 100 although the row now allows 500. -/
theorem test_a_hold_expiry_judges_by_the_tolerance_in_force :
    let s := lane 2 (fun r => { r with speed := some 7899 }) (together 8000 (some 6000) sea)
    let loaded := { s with groups := { s.groups with
      rows := s.groups.rows.set 0 (some { tolerance := 500, holdLimit := 3000 }) } }
    ((after (.groupHoldExpiry 9000 0) loaded).lane 2).inStep = false
      ∧ ((after (.groupHoldExpiry 9000 0) loaded).lane 1).inStep = true := by decide +kernel

/-! ## Witnesses: steering -/

theorem witness_TargetsAreHelmTimesGainTimesFullScale :
    ((-1000 : Int) ≤ 1000 ∧ (1000 : Int) ≤ 1000) ∧ 400 ≤ 450 ∧ 450 ≤ 900
    ∧ (400 < Int.tdiv (1000 * 950 * 450) 1000000 ∧ Int.tdiv (-1000 * 950 * 450) 1000000 < -400
      ∧ Int.tdiv (1000 * 400 * 1000) 1000000 = 400) := by
  decide

theorem witness_HelmDemandsEvaluateEveryActuator :
    (∃ q u, (given sea .B .helmDemand 10 [0#8, 0#8]).accepted 9000 .B .helmDemand .steer = some (q, u)
      ∧ decide (min 1000 (max (-1000) (i16 q.frame.data 0)) = u.steering.helm) = true)
    ∧ (∃ q u, (given sea .B .helmDemand 10 [0x7F#8, 0xFF#8]).accepted 9000 .B .helmDemand .steer = some (q, u)
      ∧ decide (min 1000 (max (-1000) (i16 q.frame.data 0)) ≠ u.steering.helm) = true) := by
  refine ⟨accepts_of ?_, accepts_of ?_⟩ <;> decide +kernel

def position (a : Nat) (s : State) : State := given s .T .steerStatus a [0xFF#8, 0xFF#8, 1#8]
def tracking (target : Int) (r : ActRec) : ActRec :=
  { r with
    state := .tracking, target := target, commanded := 100, rateTimer := some 9000, refreshTimer := some 9000,
    statusTimer := some 9000 }

theorem witness_ActuatorsAreAdoptedSteppedAndFaulted :
    (∃ q s1, (position 41 (inMode .laidUp sea)).delivery 9000 .T = some (.steerStatus, q, s1)
      ∧ decide (s1.actOf q.frame.id.source.toNat = some 0 ∧ s1.mgmt.mode ≠ .coordinating) = true)
    ∧ (∃ q s1, (position 41 (rudder 0 (tracking 100) sea)).delivery 9000 .T = some (.steerStatus, q, s1)
      ∧ decide (s1.mgmt.mode = .coordinating ∧ (s1.act 0).state = .tracking) = true)
    ∧ (∃ q s1, (position 41 sea).delivery 9000 .T = some (.steerStatus, q, s1)
      ∧ decide ((s1.act 0).state = .unsynced ∧ s1.steering.rows.get 0 = some (actRow 41 .mainRudder 0 [])) = true)
    ∧ (∃ q s1, (position 42 sea).delivery 9000 .T = some (.steerStatus, q, s1)
      ∧ decide (s1.actOf q.frame.id.source.toNat = some 1 ∧ (s1.act 1).state = .unsynced
        ∧ s1.steering.rows.get 1 = some (actRow 42 .flankingRudder 1 [5]) ∧ (s1.coup 5).state ≠ .madeFast) = true)
    ∧ (sea.held = false ∧ ((rudder 0 (tracking 100) sea).act 0).rateTimer = some 9000 ∧ 9000 ≤ (sea.at 9000).now
      ∧ ((rudder 0 (tracking 100) sea).act 0).commanded = ((rudder 0 (tracking 100) sea).act 0).target)
    ∧ (((rudder 0 (tracking 101) sea).act 0).commanded ≠ ((rudder 0 (tracking 101) sea).act 0).target
      ∧ sea.mgmt.mode = .coordinating)
    ∧ (((rudder 0 (tracking 101) sea).act 0).refreshTimer = some 9000
      ∧ ((rudder 0 (tracking 101) sea).act 0).statusTimer = some 9000) := by
  refine ⟨delivers_of ?_, delivers_of ?_, delivers_of ?_, delivers_of ?_, ?_, ?_, ?_⟩ <;> decide +kernel

/-! ## Witnesses: couplings -/

def winch (node : Nat) (tension : Nat) (drum bits : Byte) (s : State) : State :=
  given s .T .winchStatus node (be16 tension ++ [drum, bits])

theorem witness_WinchStatusMovesTheCoupling :
    (∃ q s1, (winch 51 600 1#8 0#8 (wire 0 fast sea)).delivery 9000 .T = some (.winchStatus, q, s1)
      ∧ decide (s1.coupOf q.frame.id.source.toNat = some 0 ∧ s1.couplings.rows.get 0 = some (coupRow 51 .face (some .main))
        ∧ ((s1.coup 0).reported (coupRow 51 .face (some .main)) (winchReport q.frame.data) 9000).overload = true
        ∧ ((s1.coup 0).reported (coupRow 51 .face (some .main)) (winchReport q.frame.data) 9000).state = .madeFast) = true)
    ∧ (∃ q s1, (winch 52 99 2#8 0#8 (wire 5 (inState .easing) sea)).delivery 9000 .T = some (.winchStatus, q, s1)
      ∧ decide (s1.coupOf q.frame.id.source.toNat = some 5 ∧ (coupRow 52 .tier none).bears = none
        ∧ (s1.coup 5).state = .easing
        ∧ ((s1.coup 5).reported (coupRow 52 .tier none) (winchReport q.frame.data) 9000).state = .slacked) = true)
    ∧ (∃ q s1, (winch 52 0 3#8 1#8 (wire 5 (inState .releasing) sea)).delivery 9000 .T = some (.winchStatus, q, s1)
      ∧ decide (((s1.coup 5).reported (coupRow 52 .tier none) (winchReport q.frame.data) 9000).state = .released) = true)
    ∧ (∃ q s1, (winch 52 0 3#8 2#8 sea).delivery 9000 .T = some (.winchStatus, q, s1)
      ∧ decide ((winchReport q.frame.data).fault = true ∧ (s1.coup 5).state ≠ .fault) = true) := by
  refine ⟨delivers_of ?_, delivers_of ?_, delivers_of ?_, delivers_of ?_⟩ <;> decide +kernel

theorem witness_CouplingTimersLoseFaultAndRepeat :
    (sea.held = false ∧ (wire 7 fast sea).couplings.rows.get 7 = some (coupRow 54 .tier none)
      ∧ ((wire 7 fast sea).coup 7).state = .madeFast ∧ ((wire 7 fast sea).coup 7).slackTimer = some 9000
      ∧ 9000 ≤ (sea.at 9000).now)
    ∧ ((bargeXfer .running (wire 7 fast sea)).hoseThrough 9 7 = true ∧ (bargeXfer .running sea).transfers.active ≠ none)
    ∧ ((wire 6 fast sea).assistCoupled = true ∧ (coupRow 53 .assist (some .assist)).bears = some .assist)
    ∧ (((wire 5 (inState .lost) sea).coup 5).statusTimer = some 9000
      ∧ ((wire 5 (inState .lost) sea).coup 5).state ∈ [CoupState.slacked, .makingUp, .easing, .releasing, .lost])
    ∧ ((wire 5 fast sea).coup 5).statusTimer = some 9000
    ∧ (((wire 5 (inState .makingUp) sea).coup 5).opTimer = some 9000 ∧ sea.mgmt.mode ≠ .passThrough
      ∧ ((wire 5 (inState .makingUp) sea).coup 5).repeatTimer = some 9000
      ∧ ((wire 5 (inState .makingUp) sea).coup 5).state = .makingUp)
    ∧ ([XferState.starting, .running, .suspending, .stopping, .suspended].all (fun st =>
        decide ((bargeXfer st (wire 7 fast sea)).transfers.active.map (·.state) = some st)
        && (bargeXfer st (wire 7 fast sea)).hoseThrough 9 7) = true)
    ∧ (promoted (queued (bargeXfer .suspended (wire 7 fast sea))) = true
      ∧ promoted (queuedBarge (bargeXfer .suspended (wire 7 (inState .lost) sea))) = false) := by
  decide +kernel

def order (source : Nat) (code index : Byte) (s : State) : State := given s .B .couplingOrder source [code, index]

theorem witness_CouplingOrdersAreRefusedByReason :
    (∃ q s1, (order 13 0#8 31#8 sea).delivery 9000 .B = some (.couplingOrder, q, s1)
      ∧ decide (s1.stationOf q.frame.id.source.toNat = none ∧ u8 q.frame.data 0 ≤ 4 ∧ u8 q.frame.data 1 = 31) = true)
    ∧ (∃ q s1, (order 12 7#8 32#8 sea).delivery 9000 .B = some (.couplingOrder, q, s1)
      ∧ decide (s1.stationOf q.frame.id.source.toNat = some 2 ∧ s1.intake.stations.get 2 = some (station 12 false false)
        ∧ ¬ (u8 q.frame.data 0 ≤ 4 ∧ u8 q.frame.data 1 ≤ 31)) = true)
    ∧ (∃ q s1, (order 10 3#8 32#8 sea).passed 9000 .B .lock = some (q, s1) ∧ decide (32 ≤ u8 q.frame.data 1) = true)
    ∧ (∃ q s1, (order 10 3#8 31#8 sea).passed 9000 .B .lock = some (q, s1)
      ∧ decide (u8 q.frame.data 1 = 31 ∧ s1.couplings.rows.get 31 = none) = true)
    ∧ (∃ q s1, (order 10 0#8 5#8 sea).passed 9000 .B .makeUp = some (q, s1)
      ∧ decide (u8 q.frame.data 1 = 5 ∧ (s1.coup 5).state = .unsynced) = true)
    ∧ (∃ q s1, (order 10 1#8 5#8 sea).passed 9000 .B .ease = some (q, s1) ∧ decide ((s1.coup 5).state = .unsynced) = true)
    ∧ (∃ q s1, (order 10 4#8 5#8 sea).passed 9000 .B .unlock = some (q, s1) ∧ decide (s1.couplings.permit = none) = true)
    ∧ (∃ q s1, (order 10 4#8 5#8 (permitted (wire 5 (inState .released) sea))).passed 9000 .B .unlock = some (q, s1)
      ∧ decide (s1.couplings.permit = some { holder := 10, setAt := 8000 } ∧ (s1.coup 5).state = .released) = true)
    ∧ (∃ q s1, (order 10 6#8 0#8 sea).passed 9000 .B .unlockAll = some (q, s1)
      ∧ decide (s1.couplings.permit = none) = true) := by
  refine ⟨delivers_of ?_, delivers_of ?_, passes_of ?_, passes_of ?_, passes_of ?_, passes_of ?_, passes_of ?_,
    passes_of ?_, passes_of ?_⟩ <;> decide +kernel

theorem witness_MakeUpHeavesAndEasePaysOut :
    (∃ q s1, (order 10 0#8 5#8 (wire 5 (inState .lost) sea)).passed 9000 .B .makeUp = some (q, s1)
      ∧ decide (u8 q.frame.data 1 = 5 ∧ s1.couplings.rows.get 5 = some (coupRow 52 .tier none)
        ∧ (s1.coup 5).state ∈ [CoupState.released, .slacked, .lost]) = true)
    ∧ (∃ q s1, (order 10 0#8 5#8 (wire 5 fast sea)).passed 9000 .B .makeUp = some (q, s1)
      ∧ decide ((s1.coup 5).state ∈ [CoupState.makingUp, .madeFast]) = true)
    ∧ (∃ q s1, (order 10 1#8 7#8 (wire 7 fast sea)).passed 9000 .B .ease = some (q, s1)
      ∧ decide (u8 q.frame.data 1 = 7 ∧ s1.couplings.rows.get 7 = some (coupRow 54 .tier none)
        ∧ (s1.coup 7).state = .madeFast ∧ s1.transfers.active = none
        ∧ (7 : Fin 32) ∉ (actRow 42 .flankingRudder 1 [5]).path) = true)
    ∧ (∃ q s1, (order 10 1#8 7#8 (wire 7 (inState .slacked) sea)).passed 9000 .B .ease = some (q, s1)
      ∧ decide ((s1.coup 7).state ∈ [CoupState.easing, .slacked]) = true) := by
  refine ⟨passes_of ?_, passes_of ?_, passes_of ?_, passes_of ?_⟩ <;> decide +kernel

theorem witness_LocksAndThePermit :
    (∃ q s1, (order 10 3#8 0#8 sea).passed 9000 .B .lock = some (q, s1)
      ∧ decide (u8 q.frame.data 1 = 0 ∧ s1.couplings.rows.get 0 = some (coupRow 51 .face (some .main))) = true)
    ∧ (∃ q s1, (order 10 5#8 0#8 sea).passed 9000 .B .lockAll = some (q, s1) ∧ decide (s1.held = false) = true)
    ∧ (∃ q s1, (order 10 4#8 0#8 (permitted sea)).passed 9000 .B .unlock = some (q, s1)
      ∧ decide (u8 q.frame.data 1 = 0 ∧ s1.couplings.permit = some { holder := 10, setAt := 8000 }
        ∧ q.frame.id.source.toNat = 10 ∧ (s1.coup 0).state ≠ .released) = true)
    ∧ (∃ q s1, (order 10 6#8 0#8 (permitted sea)).passed 9000 .B .unlockAll = some (q, s1)
      ∧ decide (s1.couplings.permit = some { holder := 10, setAt := 8000 } ∧ q.frame.id.source.toNat = 10) = true)
    ∧ (∃ q s1, (order 10 7#8 0#8 sea).passed 9000 .B .permit = some (q, s1) ∧ decide (s1.held = false) = true)
    ∧ ((permitted sea).held = false ∧ 8000 + 10000 ≤ ((permitted sea).at 18000).now
      ∧ ((permitted sea).at 17999).now < 8000 + 10000) := by
  refine ⟨passes_of ?_, passes_of ?_, passes_of ?_, passes_of ?_, passes_of ?_, ?_⟩ <;> decide +kernel

/-- A RELEASE of coupling 7, or of the FACE wire 0, by the holder of the permit. -/
def letGo (c : Byte) (s : State) : State := order 10 2#8 c (permitted s)

theorem witness_ReleasesPassFiveTests :
    (∃ q s1, (letGo 7#8 sea).passed 9000 .B .release = some (q, s1)
      ∧ decide (u8 q.frame.data 1 = 7 ∧ s1.couplings.rows.get 7 = some (coupRow 54 .tier none)
        ∧ (s1.coup 7).lock = true) = true)
    ∧ (∃ q s1, (order 10 2#8 7#8 (wire 7 (inState .slacked) sea)).passed 9000 .B .release = some (q, s1)
      ∧ decide ((s1.coup 7).lock = false ∧ s1.couplings.permit = none) = true)
    ∧ (∃ q s1, (letGo 7#8 (wire 7 (inState .lost) sea)).passed 9000 .B .release = some (q, s1)
      ∧ decide ((s1.coup 7).lock = false ∧ (s1.coup 7).state ≠ .slacked
        ∧ s1.couplings.permit = some { holder := 10, setAt := 8000 }) = true)
    ∧ (∃ q s1, (letGo 0#8 (lane 0 (ahead 6000) (wire 0 (inState .slacked) sea))).passed 9000 .B .release = some (q, s1)
      ∧ decide ((s1.coup 0).lock = false ∧ (s1.coup 0).state = .slacked ∧ (coupRow 51 .face (some .main)).kind = .face
        ∧ (s1.lane 0).state.active = true ∧ s1.lanes.rows.get 0 = some (laneRow 31 .M .main none 1)) = true)
    ∧ (∃ q s1, (letGo 7#8 (bargeXfer .suspended (wire 7 (inState .slacked) sea))).passed 9000 .B .release = some (q, s1)
      ∧ decide ((s1.coup 7).lock = false ∧ (s1.coup 7).state = .slacked ∧ s1.hoseThrough 9 7 = true
        ∧ s1.transfers.active ≠ none ∧ (coupRow 54 .tier none).kind = .tier) = true)
    ∧ (∃ q s1, (letGo 0#8 (lane 0 waiting (wire 0 (inState .slacked) sea))).passed 9000 .B .release = some (q, s1)
      ∧ decide ((s1.coup 0).lock = false ∧ (s1.coup 0).state = .slacked ∧ s1.transfers.active = none
        ∧ (∀ l, (s1.lane l).state.active = false) ∧ (s1.lane 0).pending ≠ none) = true) := by
  refine ⟨passes_of ?_, passes_of ?_, passes_of ?_, passes_of ?_, passes_of ?_, passes_of ?_⟩ <;> decide +kernel

/-! ## Witnesses: fuel and transfers -/

/-- Baselines on the three loaded channels, their timers due. -/
def based (s : State) : State :=
  let r := { ChanRec.reset with prevSupply := some 65400, prevReturn := some 65400, timer := some 9000 }
  let recs := ((s.fuel.recs.set 1 r).set 2 r).set 3 r
  { s with fuel := { s.fuel with recs := recs } }

def meter (node supply ret : Nat) (s : State) : State :=
  given s .T .meterReading node (be16 supply ++ be16 625 ++ be16 ret ++ be16 700)

theorem witness_EngineReadingsChargeTheFeedTank :
    (2000 ≤ 2000 ∧ 0 < 100000000000 ∧ ((-400 : Int) ≤ -400 ∧ (1500 : Int) ≤ 1500) ∧ 10000 * 1000 ≤ 10000000)
    ∧ (∃ q s1, (meter 61 276 300 sea).delivery 9000 .T = some (.meterReading, q, s1)
      ∧ decide (s1.chanOf q.frame.id.source.toNat = some 1 ∧ s1.fuel.channels.get 1 = some (chanRow 61 .engine)
        ∧ (s1.fuel.recs.get 1).prevSupply = none) = true)
    ∧ (∃ q s1, (meter 61 65399 300 (based sea)).delivery 9000 .T = some (.meterReading, q, s1)
      ∧ decide ((s1.fuel.recs.get 1).prevSupply = some 65400 ∧ (s1.fuel.recs.get 1).prevReturn = some 65400
        ∧ (chanRow 61 .engine).cap < ((meterReport q.frame.data).supply + 65536 - 65400) % 65536) = true)
    ∧ (∃ q s1, (meter 63 276 65500 (based sea)).delivery 9000 .T = some (.meterReading, q, s1)
      ∧ decide (s1.chanOf q.frame.id.source.toNat = some 3 ∧ s1.laneOfChannel 3 = none
        ∧ ((meterReport q.frame.data).supply + 65536 - 65400) % 65536 ≤ (chanRow 63 .engine).cap
        ∧ ((meterReport q.frame.data).return_ + 65536 - 65400) % 65536 * 100 ≤ 10000000) = true)
    ∧ (∃ q s1, (meter 61 276 65500 (based sea)).delivery 9000 .T = some (.meterReading, q, s1)
      ∧ decide (s1.laneOfChannel 1 = some (laneRow 31 .M .main none 1) ∧ s1.tankDefined 4 = true
        ∧ ((meterReport q.frame.data).supply + 65536 - 65400) % 65536 ≤ (chanRow 61 .engine).cap) = true) := by
  refine ⟨?_, delivers_of ?_, delivers_of ?_, delivers_of ?_, delivers_of ?_⟩ <;> decide +kernel

def reserveAt (kg : Nat) (low : Bool) (s : State) : State := s.putAcct 4 { acct kg with atReserve := low }

theorem witness_TheReserveFollowsTheContent :
    (sea.fuel.tanks.get 4 = some (tankRow .feed none)
      ∧ ((reserveAt 999 false sea).acct 4).content < ((1000 * 1000000 : Nat) : Int)
      ∧ ((reserveAt 999 false sea).acct 4).atReserve = false ∧ ((reserveAt 999 false sea).acct 4).defined = true)
    ∧ ((((1000 + 200) * 1000000 : Nat) : Int) ≤ ((reserveAt 1200 true sea).acct 4).content
      ∧ ((reserveAt 1200 true sea).acct 4).atReserve = true)
    ∧ (((1000 * 1000000 : Nat) : Int) ≤ ((reserveAt 1000 false sea).acct 4).content
      ∧ ((reserveAt 1199 true sea).acct 4).content < (((1000 + 200) * 1000000 : Nat) : Int))
    ∧ ((2 : Fin 16) ≠ 3 ∧ 0 < 1) ∧ FitsAccount ((sea.acct 2).content - 1) ∧ FitsAccount ((sea.acct 2).outTotal + 1)
    ∧ FitsAccount ((sea.acct 3).content + 1) ∧ FitsAccount ((sea.acct 3).inTotal + 1)
    ∧ (sea.acct 2).Balanced ∧ (sea.acct 3).Balanced := by
  refine ⟨?_, ?_, ?_, ?_, ?_, ?_, ?_, ?_, ?_, ?_⟩
  all_goals try unfold FitsAccount
  all_goals try unfold TankAcct.Balanced
  all_goals decide +kernel

/-- A reading of the transfer's meter of so many pulses, the ACTIVE record as given. -/
def metering (pulses : Nat) (x : Xfer) (s : State) : State := meter 62 (65400 + pulses) 0 ((based s).putActive (some x))

/-- What every clause about a metered transfer finds. -/
def metersXfer (x : Xfer) (s1 : State) : Bool :=
  decide (s1.chanOf 62 = some 2 ∧ (s1.fuel.recs.get 2).prevSupply = some 65400 ∧ s1.transfers.active = some x ∧ x.channel = 2
    ∧ s1.mgmt.mode ≠ .passThrough)

theorem witness_TransferReadingsMoveTheirMass :
    (∃ q s1, (meter 62 276 0 (based sea)).delivery 9000 .T = some (.meterReading, q, s1)
      ∧ decide (s1.chanOf q.frame.id.source.toNat = some 2 ∧ s1.fuel.channels.get 2 = some (chanRow 62 .transfer)
        ∧ (chanRow 62 .transfer).kind = .transfer ∧ (s1.fuel.recs.get 2).prevSupply = some 65400
        ∧ ((meterReport q.frame.data).supply + 65536 - 65400) % 65536 ≤ (chanRow 62 .transfer).cap
        ∧ ((meterReport q.frame.data).supply + 65536 - 65400) % 65536 * 100 ≤ 10000000 ∧ s1.transfers.active = none) = true)
    ∧ (∃ q s1, (metering 100 (xfer .starting) sea).delivery 9000 .T = some (.meterReading, q, s1)
      ∧ metersXfer (xfer .starting) s1 = true)
    ∧ (∃ q s1, (metering 100 { xfer .running with moved := 4999999999 } sea).delivery 9000 .T = some (.meterReading, q, s1)
      ∧ metersXfer { xfer .running with moved := 4999999999 } s1 = true)
    ∧ (∃ q s1, (metering 100 (xfer .running) (sea.putAcct 3 (acct 49500))).delivery 9000 .T = some (.meterReading, q, s1)
      ∧ (metersXfer (xfer .running) s1 && decide ((s1.acct 3).content = 49500000000
        ∧ s1.fuel.tanks.get 3 = some (tankRow .storage none))) = true)
    ∧ (∃ q s1, (metering 0 { xfer .suspending with pumpStopped := true } sea).delivery 9000 .T = some (.meterReading, q, s1)
      ∧ metersXfer { xfer .suspending with pumpStopped := true } s1 = true)
    ∧ (∃ q s1, (metering 0 { xfer .stopping with pumpStopped := true } sea).delivery 9000 .T = some (.meterReading, q, s1)
      ∧ (metersXfer { xfer .stopping with pumpStopped := true } s1 && decide (s1.transfers.waiting = none)) = true)
    ∧ (∃ q s1, (metering 0 { xfer .stopping with pumpStopped := true } (queued sea)).delivery 9000 .T
        = some (.meterReading, q, s1)
      ∧ (metersXfer { xfer .stopping with pumpStopped := true } s1 && promoted s1) = true)
    ∧ (∃ q s1, (metering 1 (xfer .stopping) sea).delivery 9000 .T = some (.meterReading, q, s1)
      ∧ metersXfer (xfer .stopping) s1 = true) := by
  refine ⟨delivers_of ?_, delivers_of ?_, delivers_of ?_, delivers_of ?_, delivers_of ?_, delivers_of ?_, delivers_of ?_,
    delivers_of ?_⟩ <;> decide +kernel

/-- R151: a reading without pulses with the pump stopped ends SUSPENDING; R149: COMPLETE and DEST_FULL stop a RUNNING
transfer with one stop order. -/
theorem test_readings_end_and_stop_a_transfer :
    let after' (pulses : Nat) (x : Xfer) (s : State) := after (.meterReading 9000 .T) (metering pulses x s)
    let codeOf (s : State) := s.transfers.active.map (fun x => (x.state, x.code))
    codeOf (after' 0 { xfer .suspending with pumpStopped := true } sea) = some (.suspended, none)
      ∧ codeOf (after' 100 { xfer .running with moved := 4999999999 } sea) = some (.stopping, some .complete)
      ∧ codeOf (after' 100 (xfer .running) (sea.putAcct 3 (acct 49500))) = some (.stopping, some .destFull)
      ∧ ((after' 100 (xfer .running) (sea.putAcct 3 (acct 49500))).port .M).egress = [sea.pumpFrame (xfer .running) true] := by
  decide +kernel

def pump (bits : Byte) (s : State) : State := given s .M .pumpStatus 70 [bits]
def pumpSays (st : XferState) (run fault : Bool) (q : Received) (s1 : State) : Bool :=
  decide (s1.transfers.active = some (xfer st) ∧ (xfer st).pumpNode = q.frame.id.source.toNat
    ∧ s1.mgmt.mode ≠ .passThrough ∧ bitOf q.frame.data 0 0 = run ∧ bitOf q.frame.data 0 1 = fault)

theorem witness_PumpStatusDrivesTheActiveRecord :
    (∃ q s1, (pump 1#8 sea).delivery 9000 .M = some (.pumpStatus, q, s1) ∧ decide (s1.transfers.active = none) = true)
    ∧ (∃ q s1, (pump 1#8 (active .starting sea)).delivery 9000 .M = some (.pumpStatus, q, s1)
      ∧ pumpSays .starting true false q s1 = true)
    ∧ (∃ q s1, (pump 0#8 (active .starting sea)).delivery 9000 .M = some (.pumpStatus, q, s1)
      ∧ pumpSays .starting false false q s1 = true)
    ∧ (∃ q s1, (pump 2#8 (active .starting sea)).delivery 9000 .M = some (.pumpStatus, q, s1)
      ∧ pumpSays .starting false true q s1 = true)
    ∧ (∃ q s1, (pump 1#8 (active .running sea)).delivery 9000 .M = some (.pumpStatus, q, s1)
      ∧ pumpSays .running true false q s1 = true)
    ∧ (∃ q s1, (pump 0#8 (active .running sea)).delivery 9000 .M = some (.pumpStatus, q, s1)
      ∧ pumpSays .running false false q s1 = true)
    ∧ (∃ q s1, (pump 3#8 (active .suspending sea)).delivery 9000 .M = some (.pumpStatus, q, s1)
      ∧ pumpSays .suspending true true q s1 = true)
    ∧ (∃ q s1, (pump 0#8 (active .stopping sea)).delivery 9000 .M = some (.pumpStatus, q, s1)
      ∧ pumpSays .stopping false false q s1 = true)
    ∧ (∃ q s1, (pump 1#8 (active .suspended sea)).delivery 9000 .M = some (.pumpStatus, q, s1)
      ∧ pumpSays .suspended true false q s1 = true)
    ∧ (∃ q s1, (pump 2#8 (active .suspended sea)).delivery 9000 .M = some (.pumpStatus, q, s1)
      ∧ (pumpSays .suspended false true q s1 && decide (s1.transfers.waiting = none)) = true)
    ∧ (∃ q s1, (pump 2#8 (queued (active .suspended sea))).delivery 9000 .M = some (.pumpStatus, q, s1)
      ∧ (pumpSays .suspended false true q s1 && promoted s1) = true)
    ∧ (∃ q s1, (pump 2#8 (queuedBarge (active .suspended sea))).delivery 9000 .M = some (.pumpStatus, q, s1)
      ∧ (pumpSays .suspended false true q s1 && decide (s1.transfers.waiting ≠ none) && !promoted s1) = true) := by
  refine ⟨delivers_of ?_, delivers_of ?_, delivers_of ?_, delivers_of ?_, delivers_of ?_, delivers_of ?_, delivers_of ?_, delivers_of ?_, delivers_of ?_,
    delivers_of ?_, delivers_of ?_, delivers_of ?_⟩ <;> decide +kernel

theorem witness_TransferAndMeterTimersStopAndClose :
    (sea.held = false ∧ (active .starting sea).transfers.active = some (xfer .starting)
      ∧ (xfer .starting).startTimer = some 9000 ∧ 9000 ≤ (sea.at 9000).now ∧ sea.mgmt.mode ≠ .passThrough)
    ∧ ((xfer .suspending).state = .suspending ∧ (xfer .suspending).stopTimer = some 9000)
    ∧ ((active .stopping sea).transfers.waiting = none ∧ (xfer .stopping).stopTimer = some 9000)
    ∧ ((queued (active .stopping sea)).xferInRange 2 3 5000 70 2 = true
      ∧ (queued (active .stopping sea)).xferRefusal 2 3 5000 = none)
    ∧ ((reserveAt 0 true (queued (active .stopping sea))).xferRefusal 4 3 5000 ≠ none)
    ∧ ((xfer .running).state = .running ∧ (xfer .running).repeatTimer = some 9000)
    ∧ ((based sea).fuel.channels.get 2 = some (chanRow 62 .transfer) ∧ ((based sea).fuel.recs.get 2).timer = some 9000
      ∧ (based sea).transfers.active = none ∧ (xfer .running).channel = 2) := by
  decide +kernel

/-! ## Witnesses: the laws -/

/-- The laws' hypotheses are met together by a part at sea with a transfer running, and a step from there answers. -/
theorem witness_Laws : QueueLaw (active .running sea) ∧ RouteLaw (active .running sea) ∧ LockLaw (active .running sea)
    ∧ ReleaseLaw (active .running sea) ∧ SlotLaw (active .running sea) ∧ HoseLaw (active .running sea)
    ∧ SetpointLaw (active .running sea) ∧ (active .running sea).node < 128
    ∧ step (active .running sea) = .next (active .running sea) := by
  have ha : (active .running sea).transfers.active = some (xfer .running) := by decide +kernel
  have hw : (active .running sea).transfers.waiting = none := by decide +kernel
  have hm : (active .running sea).mgmt.mode = .coordinating := by decide +kernel
  refine ⟨fun p => by cases p <;> decide +kernel, ⟨?_, ?_, ?_⟩, by unfold LockLaw; decide +kernel, ?_,
    ⟨?_, ?_, ?_, ?_⟩, ?_, ?_, by decide +kernel, by rfl⟩
  · decide +kernel
  · decide +kernel
  · have h : ∀ e ∈ (active .running sea).switch.routes,
        (match e.source with | none => true | some n => decide (1 ≤ n ∧ n ≤ 126)) = true := by decide +kernel
    intro e he n hn
    have := h e he
    simpa [hn] using this
  · intro c row _ _ h
    have hn : ∀ c : Fin 32, ((active .running sea).coup c).state ≠ .releasing := by decide +kernel
    exact absurd h (hn c)
  · rw [hw]; intro h; cases h
  · rw [ha]; intro x h; cases h; decide
  · rw [hw]; intro x h; cases h
  · rw [hm]; intro h; cases h
  · rw [HoseLaw, ha]; intro x h _; cases h; decide +kernel
  · have h : ∀ l : Fin 4, (((active .running sea).lane l).state.loadable = true → ((active .running sea).lane l).setpoint = 0)
        ∧ ((active .running sea).lanes.rows.get l).all (fun row =>
          !(((active .running sea).lane l).state == .neutral || ((active .running sea).lane l).state == .engaging
            || ((active .running sea).lane l).state == .declutch)
          || ((active .running sea).lane l).setpoint == row.idle) = true := by decide +kernel
    intro l
    refine ⟨(h l).1, fun row hrow hs => ?_⟩
    have := (h l).2
    rw [hrow] at this
    rcases hs with hs | hs | hs <;> simpa [hs] using this

end Sys2Proof.Tests
end

section
/-!
PROOFS. The two rows of the reset line and the supply: power-on reset, and the hold in reset (R167, R170).
-/

namespace Sys2Proof.Machine

theorem exec_powerOnReset (t : Nat) (cause : HoldEnd) (s : State) :
    exec (.powerOnReset t cause) s = .next ((s.at t).endHold cause) := rfl

theorem exec_resetLineAsserted (t : Nat) (cause : HoldCause) (s : State) :
    exec (.resetLineAsserted t cause) s = .next ((s.at t).holdInReset cause) := rfl

/-- R3: straps of 1 to 126 are the node number. -/
theorem nodeOfStraps_of_range {straps : BitVec 7} (h1 : 1 ≤ straps.toNat) (h2 : straps.toNat ≤ 126) :
    nodeOfStraps straps = straps.toNat := if_pos ⟨h1, h2⟩

/-- R3: straps of 0 and 127 give node 126. -/
theorem nodeOfStraps_of_end {straps : BitVec 7} (h : straps = 0#7 ∨ straps = 127#7) : nodeOfStraps straps = 126 := by
  rcases h with rfl | rfl <;> rfl

/-- R170: the end of the last cause that holds the part carries out power-on reset. -/
theorem State.endHold_last {cause : HoldEnd} {straps : BitVec 7} {s : State}
    (h : cause = .lineReleased straps ∧ s.lineAsserted = true ∧ s.supplyLow = false
      ∨ cause = .supplyRises straps ∧ s.lineAsserted = false) :
    s.endHold cause = s.powerOn straps := by
  rcases h with ⟨rfl, hline, hlow⟩ | ⟨rfl, hline⟩
  · simp [State.endHold, hline, hlow]
  · simp [State.endHold, hline]

/-- The power-on values under the two causes of the hold. -/
def State.powerOnUnder (line low : Bool) (straps : BitVec 7) (s : State) : State :=
  { s.powerOn straps with lineAsserted := line, supplyLow := low }

theorem State.powerOn_eq_powerOnUnder (straps : BitVec 7) (s : State) :
    s.powerOn straps = s.powerOnUnder false false straps := rfl

theorem State.powerOnUnder_held (line low : Bool) (straps : BitVec 7) (s : State) :
    (s.powerOnUnder line low straps).held = (line || low) := rfl

/-- R170: a cause of the hold leaves the power-on values with the straps as they were, and holds the part. -/
theorem State.holdInReset_holds {cause : HoldCause} (s : State)
    (h : (∃ ms, 10 ≤ ms ∧ cause = .line ms) ∨ cause = .supplyBelow15V) :
    ∃ line low, s.holdInReset cause = s.powerOnUnder line low s.straps ∧ (line || low) = true := by
  rcases h with ⟨ms, hms, rfl⟩ | rfl
  · exact ⟨true, s.supplyLow, if_pos hms, rfl⟩
  · exact ⟨s.lineAsserted, true, rfl, Bool.or_true _⟩

end Sys2Proof.Machine

open Sys2Proof Sys2Proof.Machine

/-- Settles O3: the end of the hold is `State.powerOn` with the straps read, its start the same values with the straps kept,
and the blocks of both are those of `State.powerOnUnder`. -/
theorem powerOnResetGivesThePowerOnValues : Obligations.PowerOnResetGivesThePowerOnValues := by
  unfold Obligations.PowerOnResetGivesThePowerOnValues
  intro powered t s
  have blocks : ∀ line low straps, powered s ((s.at t).powerOnUnder line low straps) t := fun _ _ _ =>
    ⟨rfl, rfl, rfl, rfl, rfl, rfl, rfl, rfl, rfl, rfl, rfl, rfl⟩
  refine ⟨fun cause straps h => ?ended, fun cause h => ?held⟩
  case ended =>
    have hpower : (s.at t).endHold cause = (s.at t).powerOnUnder false false straps := by
      rw [State.endHold_last (s := s.at t) h, State.powerOn_eq_powerOnUnder]
    exact ⟨_, (exec_powerOnReset t cause s).trans (congrArg _ hpower), blocks _ _ _,
      State.powerOnUnder_held _ _ _ _, rfl, nodeOfStraps_of_range, nodeOfStraps_of_end⟩
  case held =>
    obtain ⟨line, low, hstate, hheld⟩ := (s.at t).holdInReset_holds h
    exact ⟨_, (exec_resetLineAsserted t cause s).trans (congrArg _ hstate), blocks _ _ _,
      (State.powerOnUnder_held _ _ _ _).trans hheld, rfl⟩
end

section
/-!
PROOFS. What the frames that the part sends on B of its own accord, ATTENTION and the summaries, leave as they are: the
ports M and T, the clock, the flags, and the head of B's queue, where a reply may stand (R7, R26, R163).
-/

namespace Sys2Proof.Machine

/-! ## ATTENTION frames and summaries -/

/-- The kinds that the part sends to all, unasked: ATTENTION and the summaries. -/
def MsgKind.isNotice : MsgKind → Bool
  | .laneSummary | .helmSummary | .couplingSummary | .commandState | .attention => true
  | _ => false

/-- No ATTENTION frame and no summary is a reply. -/
theorem MsgKind.number_ne_mgmtReply_of_isNotice {k : MsgKind} (h : k.isNotice = true) :
    k.number ≠ MsgKind.mgmtReply.number := by
  cases k <;> revert h <;> decide

/-- An ATTENTION frame or a summary of the part. -/
def State.Notice (s : State) (f : CmsFrame) : Prop := ∃ k data, k.isNotice = true ∧ f = s.frameOf k 0 data

theorem State.notice_frameOf {k : MsgKind} (h : k.isNotice = true) (data : List Byte) (s : State) :
    s.Notice (s.frameOf k 0 data) := ⟨k, data, h, rfl⟩

theorem State.frameOf_congr {s t : State} (h : t.node = s.node) (k : MsgKind) (target : Nat) (data : List Byte) :
    t.frameOf k target data = s.frameOf k target data := by
  simp only [State.frameOf, h]

theorem State.notice_congr {s t : State} (h : t.node = s.node) (f : CmsFrame) : t.Notice f ↔ s.Notice f := by
  simp only [State.Notice, State.frameOf_congr h]

theorem State.Notice.kind_ne_mgmtReply {s : State} {f : CmsFrame} (h : s.Notice f) :
    f.id.kind ≠ MsgKind.mgmtReply.number := by
  obtain ⟨k, data, hk, rfl⟩ := h
  exact MsgKind.number_ne_mgmtReply_of_isNotice hk

/-! ## The front of an egress queue (R26) -/

/-- A drop leaves every control frame in its queue. -/
theorem dropNewestRoutine_countP {fs rest : List CmsFrame} (h : dropNewestRoutine fs = some rest) :
    rest.countP CmsFrame.isControl = fs.countP CmsFrame.isControl := by
  induction fs generalizing rest with
  | nil => simp [dropNewestRoutine] at h
  | cons f fs ih =>
    cases hfs : dropNewestRoutine fs with
    | some r =>
      simp only [dropNewestRoutine, hfs, Option.some.injEq] at h
      subst h
      rw [List.countP_cons, List.countP_cons, ih hfs]
    | none =>
      cases hf : f.isControl <;> simp [dropNewestRoutine, hfs, hf] at h
      simp [← h, hf]

/-- A queue with nothing to drop holds control frames alone. -/
theorem dropNewestRoutine_eq_none {fs : List CmsFrame} (h : dropNewestRoutine fs = none) :
    ∀ f ∈ fs, f.isControl = true := by
  induction fs with
  | nil => simp
  | cons f fs ih =>
    cases hfs : dropNewestRoutine fs with
    | some r => simp [dropNewestRoutine, hfs] at h
    | none =>
      have hf : f.isControl = true := by simpa [dropNewestRoutine, hfs] using h
      exact List.forall_mem_cons.mpr ⟨hf, ih hfs⟩

/-- The newest routine frame stands behind `front` where a routine frame does. -/
theorem dropNewestRoutine_append {front fs rest : List CmsFrame} (h : dropNewestRoutine fs = some rest) :
    dropNewestRoutine (front ++ fs) = some (front ++ rest) := by
  induction front with
  | nil => exact h
  | cons f front ih => simp [dropNewestRoutine, ih]

/-- 1 for a control frame, 0 for a routine frame. -/
def CmsFrame.weight (f : CmsFrame) : Nat := if f.isControl then 1 else 0

theorem countP_isControl_append_singleton (fs : List CmsFrame) (f : CmsFrame) :
    (fs ++ [f]).countP CmsFrame.isControl = fs.countP CmsFrame.isControl + f.weight := by
  rw [List.countP_append, List.countP_singleton, CmsFrame.weight]

/-- A full queue takes no routine frame. -/
theorem PortState.offered_full_routine {o : Origin} {f : CmsFrame} {ps : PortState} (h : ¬ ps.egress.length < 48)
    (hf : f.isControl = false) : (ps.offered o f).egress = ps.egress := by
  simp [PortState.offered, egressMax, h, hf]

/-- A full queue takes a control frame for its newest routine frame. -/
theorem PortState.offered_full_control {o : Origin} {f : CmsFrame} {ps : PortState} {rest : List CmsFrame}
    (h : ¬ ps.egress.length < 48) (hf : f.isControl = true) (hrest : dropNewestRoutine ps.egress = some rest) :
    (ps.offered o f).egress = rest ++ [f] := by
  simp [PortState.offered, egressMax, h, hf, hrest]

/-- A frame offered to a queue leaves its front as it is, unless the front and the control frames behind it fill the queue:
what is dropped is behind the front. -/
theorem PortState.offered_front {front back : List CmsFrame} {ps : PortState} (o : Origin) (f : CmsFrame)
    (hps : ps.egress = front ++ back) (hroom : front.length + back.countP CmsFrame.isControl < 48) :
    ∃ back', (ps.offered o f).egress = front ++ back'
      ∧ back'.countP CmsFrame.isControl ≤ back.countP CmsFrame.isControl + f.weight := by
  by_cases hlen : ps.egress.length < 48
  · exact ⟨back ++ [f], by rw [PortState.offered_room hlen, hps, List.append_assoc],
      (countP_isControl_append_singleton back f).le⟩
  · cases hf : f.isControl with
    | false =>
      exact ⟨back, by rw [PortState.offered_full_routine hlen hf, hps], Nat.le_add_right _ _⟩
    | true =>
      cases hback : dropNewestRoutine back with
      | none =>
        have hall := List.countP_eq_length.mpr (dropNewestRoutine_eq_none hback)
        rw [hps, List.length_append] at hlen
        omega
      | some rest =>
        refine ⟨rest ++ [f], ?_, ?_⟩
        · rw [PortState.offered_full_control hlen hf (hps ▸ dropNewestRoutine_append hback), List.append_assoc]
        · rw [countP_isControl_append_singleton, dropNewestRoutine_countP hback]

theorem mem_of_mem_dropNewestRoutine {fs rest : List CmsFrame} (h : dropNewestRoutine fs = some rest) :
    ∀ f ∈ rest, f ∈ fs := by
  induction fs generalizing rest with
  | nil => simp [dropNewestRoutine] at h
  | cons f fs ih =>
    cases hfs : dropNewestRoutine fs with
    | some r =>
      simp only [dropNewestRoutine, hfs, Option.some.injEq] at h
      subst h
      intro g hg
      rcases List.mem_cons.mp hg with rfl | hg
      · exact List.mem_cons_self
      · exact List.mem_cons_of_mem _ (ih hfs g hg)
    | none =>
      cases hf : f.isControl <;> simp [dropNewestRoutine, hfs, hf] at h
      subst h
      exact fun g hg => List.mem_cons_of_mem _ hg

/-- Every frame in a queue after an offer was there before or is the one offered. -/
theorem PortState.mem_offered {o : Origin} {f g : CmsFrame} {ps : PortState} (h : g ∈ (ps.offered o f).egress) :
    g ∈ ps.egress ∨ g = f := by
  unfold PortState.offered at h
  split at h
  · simpa using h
  · split at h
    · split at h
      · next rest hrest =>
        rcases List.mem_append.mp h with h | h
        · exact .inl (mem_of_mem_dropNewestRoutine hrest g h)
        · exact .inr (List.mem_singleton.mp h)
      · exact .inl h
    · exact .inl h

/-! ## Where a frame is queued -/

@[simp] theorem State.enqueue_port_self (p : Port) (o : Origin) (f : CmsFrame) (s : State) :
    (s.enqueue p o f).port p = (s.port p).offered o f := State.port_setPort_self _ _ _

theorem State.enqueue_port_ne {p p' : Port} (h : p' ≠ p) (o : Origin) (f : CmsFrame) (s : State) :
    (s.enqueue p o f).port p' = s.port p' := State.port_setPort_ne h _ _

@[simp] theorem State.enqueue_node (p : Port) (o : Origin) (f : CmsFrame) (s : State) :
    (s.enqueue p o f).node = s.node := State.setPort_node _ _ _

@[simp] theorem State.latch_port (e : Event) (d : Option Nat) (s : State) (p : Port) :
    (s.latch e d).port p = s.port p := State.port_congr rfl p

theorem State.originateAll_cons (p : Port) (f : CmsFrame) (fs : List CmsFrame) (s : State) :
    s.originateAll p (f :: fs) =
      if (s.port p).congests f then ((s.enqueue p .originated f).originateAll p fs).raiseCongested p
      else (s.enqueue p .originated f).originateAll p fs := rfl

/-- Below the congestion depth nothing is congested (R28). -/
theorem PortState.congests_of_lt {f : CmsFrame} {ps : PortState} (h : ps.egress.length < 35) :
    ps.congests f = false := by
  have h36 : ps.egress.length + 1 ≠ 36 := by omega
  have h48 : ps.egress.length < egressMax := by unfold egressMax; omega
  simp [PortState.congests, h36, h48]

/-- Frames queued together on a port with room for them below the congestion depth stand at its tail. -/
theorem State.originateAll_egress {p : Port} {fs : List CmsFrame} {s : State}
    (h : (s.port p).egress.length + fs.length ≤ 35) :
    ((s.originateAll p fs).port p).egress = (s.port p).egress ++ fs := by
  induction fs generalizing s with
  | nil => simp [State.originateAll]
  | cons f fs ih =>
    rw [List.length_cons] at h
    have htail : ((s.enqueue p .originated f).port p).egress = (s.port p).egress ++ [f] := by
      rw [State.enqueue_port_self, PortState.offered_room (by omega)]
    rw [State.originateAll_cons, PortState.congests_of_lt (by omega), if_neg Bool.false_ne_true,
      ih (by rw [htail, List.length_append, List.length_singleton]; omega), htail, List.append_assoc,
      List.singleton_append]

/-! ## What notices leave as it is -/

/-- 1 while PORT_CONGESTED would still send an ATTENTION frame, 0 once its flag is set or masked (R163). -/
def State.congestedNotice (s : State) : Nat := if (s.flag .portCongested).sends then 1 else 0

theorem State.congestedNotice_le (s : State) : s.congestedNotice ≤ 1 := by
  unfold State.congestedNotice
  split <;> omega

theorem State.congestedNotice_congr {s t : State} (h : t.flag .portCongested = s.flag .portCongested) :
    t.congestedNotice = s.congestedNotice := by
  rw [State.congestedNotice, State.congestedNotice, h]

/-- The queue of B begins with `front`, and behind it there are at most `n` control frames, the ATTENTION frame that
PORT_CONGESTED may still send counted in. -/
def State.Fronted (front : List CmsFrame) (n : Nat) (s : State) : Prop :=
  ∃ back, (s.port .B).egress = front ++ back ∧ back.countP CmsFrame.isControl + s.congestedNotice ≤ n

theorem State.fronted_self (s : State) : s.Fronted (s.port .B).egress 1 :=
  ⟨[], (List.append_nil _).symm, by simpa using s.congestedNotice_le⟩

theorem State.Fronted.mono {front : List CmsFrame} {n m : Nat} {s : State} (h : s.Fronted front n) (hnm : n ≤ m) :
    s.Fronted front m := by
  obtain ⟨back, hback, hn⟩ := h
  exact ⟨back, hback, hn.trans hnm⟩

theorem State.Fronted.isPrefix {front : List CmsFrame} {n : Nat} {s : State} (h : s.Fronted front n) :
    front <+: (s.port .B).egress := by
  obtain ⟨back, hback, -⟩ := h
  exact ⟨back, hback.symm⟩

theorem State.Fronted.congr {front : List CmsFrame} {n : Nat} {s t : State} (hport : t.port .B = s.port .B)
    (hflag : t.flag .portCongested = s.flag .portCongested) (h : s.Fronted front n) : t.Fronted front n := by
  rwa [State.Fronted, hport, State.congestedNotice_congr hflag]

theorem State.Fronted.enqueue {front : List CmsFrame} {n : Nat} {s : State} (h : s.Fronted front n)
    (hroom : front.length + n < 48) (o : Origin) (f : CmsFrame) : (s.enqueue .B o f).Fronted front (n + f.weight) := by
  obtain ⟨back, hback, hn⟩ := h
  obtain ⟨back', hback', hn'⟩ := PortState.offered_front o f hback (by omega)
  refine ⟨back', by rw [State.enqueue_port_self, hback'], ?_⟩
  rw [State.congestedNotice_congr (State.enqueue_flag .B o f .portCongested s)]
  omega

/-- A raised flag sends no second ATTENTION frame (R163). -/
theorem State.congestedNotice_latch (d : Option Nat) (s : State) : (s.latch .portCongested d).congestedNotice = 0 := by
  rw [State.congestedNotice, State.latch_flag_self]
  cases h : (s.flag .portCongested).isSet <;> simp [EventFlag.raise, EventFlag.sends, h]

theorem State.Fronted.latchCongested {front : List CmsFrame} {n : Nat} {s : State} (h : s.Fronted front n)
    (d : Option Nat) : (s.latch .portCongested d).Fronted front (n - s.congestedNotice) := by
  obtain ⟨back, hback, hn⟩ := h
  exact ⟨back, hback, by rw [State.congestedNotice_latch]; omega⟩

/-- PORT_CONGESTED raised: the one ATTENTION frame it sends was counted in. -/
theorem State.Fronted.raiseCongested {front : List CmsFrame} {n : Nat} {s : State} (h : s.Fronted front n)
    (hroom : front.length + n < 48) (p : Port) : (s.raiseCongested p).Fronted front n := by
  have hset := h.latchCongested (some (portCode p))
  unfold State.raiseCongested
  dsimp only
  split
  · next hsends =>
    have hone : s.congestedNotice = 1 := if_pos hsends
    have hpos : 1 ≤ n := by
      obtain ⟨back, -, hn⟩ := h
      omega
    have hsent := (hset.enqueue (by omega) .originated
      ((s.latch .portCongested (some (portCode p))).frameOf .attention 0
        (attentionData .portCongested (some (portCode p))))).mono (m := n)
      (by show n - s.congestedNotice + 1 ≤ n; omega)
    split
    · exact (hsent.latchCongested _).mono (Nat.sub_le _ _)
    · exact hsent
  · exact hset.mono (Nat.sub_le _ _)

/-- The relation between a state and the state after the part has queued ATTENTION frames and summaries on B, raising the
events `es` beside PORT_CONGESTED and queueing at most `c` control frames beside that of PORT_CONGESTED. -/
structure Notified (es : List Event) (c : Nat) (s t : State) : Prop where
  now    : t.now = s.now
  node   : t.node = s.node
  port   : ∀ p, p ≠ .B → t.port p = s.port p
  flags  : FlagsKept s t es
  frames : ∀ f ∈ (t.port .B).egress, f ∈ (s.port .B).egress ∨ s.Notice f
  front  : ∀ front n, front.length + n + c < 48 → s.Fronted front n → t.Fronted front (n + c)

theorem Notified.refl (s : State) : Notified [] 0 s s :=
  ⟨rfl, rfl, fun _ _ => rfl, fun _ _ _ => rfl, fun _ h => .inl h, fun _ _ _ h => h⟩

theorem Notified.trans {es es' : List Event} {c c' : Nat} {s t u : State} (h : Notified es c s t)
    (g : Notified es' c' t u) : Notified (es ++ es') (c + c') s u where
  now := g.now.trans h.now
  node := g.node.trans h.node
  port p hp := (g.port p hp).trans (h.port p hp)
  flags e he hes := by
    obtain ⟨h1, h2⟩ := not_or.mp (fun hmem => hes (List.mem_append.mpr hmem))
    exact (g.flags e he h2).trans (h.flags e he h1)
  frames f hf := (g.frames f hf).elim (h.frames f) fun hn => .inr ((State.notice_congr h.node f).mp hn)
  front front n hroom hs := by
    have := g.front front (n + c) (by omega) (h.front front n (by omega) hs)
    rwa [Nat.add_assoc] at this

theorem Notified.mono {es : List Event} {c c' : Nat} {s t : State} (h : Notified es c s t) (hc : c ≤ c') :
    Notified es c' s t :=
  { h with
    front := fun front n hroom hs => (h.front front n (by omega) hs).mono (Nat.add_le_add_left hc n) }

theorem Notified.after {s t u : State} (g : Notified [] 0 t u) (h : Notified [] 0 s t) : Notified [] 0 s u := h.trans g

/-- A state that differs in no clock, node number, port or flag. -/
theorem Notified.of_eq {s t : State} (hnow : t.now = s.now) (hnode : t.node = s.node) (hswitch : t.switch = s.switch)
    (hmgmt : t.mgmt = s.mgmt) : Notified [] 0 s t where
  now := hnow
  node := hnode
  port p _ := State.port_congr hswitch p
  flags e _ _ := by rw [State.flag, State.flag, hmgmt]
  frames f hf := .inl (State.port_congr hswitch .B ▸ hf)
  front _ _ _ h := h.congr (State.port_congr hswitch .B) (by rw [State.flag, State.flag, hmgmt])

theorem Notified.enqueue {s : State} {f : CmsFrame} (h : s.Notice f) (o : Origin) :
    Notified [] f.weight s (s.enqueue .B o f) where
  now := State.setPort_now _ _ _
  node := State.enqueue_node _ _ _ _
  port _ hp := State.enqueue_port_ne hp _ _ _
  flags _ _ _ := State.enqueue_flag _ _ _ _ _
  frames g hg := by
    rw [State.enqueue_port_self] at hg
    exact (PortState.mem_offered hg).imp_right fun (e : g = f) => e ▸ h
  front _ _ hroom hs := hs.enqueue (by omega) o f

/-- An event latched. -/
theorem Notified.latch {e : Event} (h : e ≠ .portCongested) (d : Option Nat) (s : State) :
    Notified [e] 0 s (s.latch e d) where
  now := rfl
  node := rfl
  port _ _ := rfl
  flags e' _ he := State.latch_flag_ne (fun hh => he (by simp [hh])) _ _
  frames _ hf := .inl hf
  front _ _ _ hs := State.Fronted.congr (s := s) rfl (State.latch_flag_ne h.symm d s) hs

theorem State.mem_raiseCongested {p : Port} {s : State} {f : CmsFrame} (h : f ∈ ((s.raiseCongested p).port .B).egress) :
    f ∈ (s.port .B).egress ∨ s.Notice f := by
  have sent : ∀ d data, f ∈ (((s.latch .portCongested d).enqueue .B .originated
      ((s.latch .portCongested d).frameOf .attention 0 data)).port .B).egress → f ∈ (s.port .B).egress ∨ s.Notice f :=
    fun d data hf => (Notified.enqueue (State.notice_frameOf rfl data (s.latch .portCongested d)) _).frames f hf
  unfold State.raiseCongested at h
  dsimp only at h
  split at h
  · split at h
    · exact sent _ _ h
    · exact sent _ _ h
  · exact .inl h

theorem State.raiseCongested_port_ne {p p' : Port} (h : p' ≠ .B) (s : State) :
    (s.raiseCongested p).port p' = s.port p' := by
  unfold State.raiseCongested
  dsimp only
  split
  · split <;> simp [State.enqueue_port_ne h]
  · simp

@[simp] theorem State.raiseCongested_node (p : Port) (s : State) : (s.raiseCongested p).node = s.node :=
  congrArg (fun u => u.node) (Calm.raiseCongested p s).quiet

theorem Notified.raiseCongested (p : Port) (s : State) : Notified [] 0 s (s.raiseCongested p) where
  now := (Calm.raiseCongested p s).now
  node := State.raiseCongested_node p s
  port _ hp := State.raiseCongested_port_ne hp s
  flags _ he _ := State.raiseCongested_flag he p s
  frames _ hf := State.mem_raiseCongested hf
  front _ _ hroom hs := hs.raiseCongested (by omega) p

theorem Notified.offer {s : State} {f : CmsFrame} (h : s.Notice f) : Notified [] f.weight s (s.offer .B .originated f) := by
  unfold State.offer
  split
  · exact (Notified.enqueue h _).trans (.raiseCongested _ _)
  · exact .enqueue h _

/-- An event raised queues at most its ATTENTION frame (R163). -/
theorem Notified.raise {e : Event} (h : e ≠ .portCongested) (d : Option Nat) (s : State) :
    Notified [e] 1 s (s.raise e d) := by
  unfold State.raise State.raiseWith
  dsimp only
  split
  · exact (Notified.latch h d s).trans (.offer (State.notice_frameOf (k := .attention) rfl _ _))
  · exact (Notified.latch h d s).mono (Nat.zero_le 1)

/-- Summaries queued together on B. -/
theorem Notified.originateAll {fs : List CmsFrame} {s : State} (h : ∀ f ∈ fs, s.Notice f ∧ f.isControl = false) :
    Notified [] 0 s (s.originateAll .B fs) := by
  induction fs generalizing s with
  | nil => exact .refl s
  | cons f fs ih =>
    obtain ⟨⟨hnotice, hroutine⟩, hfs⟩ := List.forall_mem_cons.mp h
    have hweight : f.weight = 0 := by simp [CmsFrame.weight, hroutine]
    have hfirst : Notified [] 0 s (s.enqueue .B .originated f) := hweight ▸ Notified.enqueue hnotice .originated
    have hrest := hfirst.trans (ih fun g hg => ⟨(State.notice_congr hfirst.node g).mpr (hfs g hg).1, (hfs g hg).2⟩)
    rw [State.originateAll_cons]
    split
    · exact hrest.trans (.raiseCongested _ _)
    · exact hrest

/-- One summary queued on B. -/
theorem Notified.originate {k : MsgKind} (hk : k.isNotice = true) (hcls : 3 < k.cls.toNat) (data : List Byte) (s : State) :
    Notified [] 0 s (s.originate .B k 0 data) := by
  have hweight : (s.frameOf k 0 data).weight = 0 := by
    have hroutine : (s.frameOf k 0 data).isControl = false := decide_eq_false (Nat.not_le.mpr hcls)
    rw [CmsFrame.weight, hroutine, if_neg Bool.false_ne_true]
  exact hweight ▸ Notified.offer (State.notice_frameOf hk data s)

/-! ## The end of an event -/

theorem Notified.laneSummary (l : Fin 4) (s : State) : Notified [] 0 s (s.laneSummary l) := by
  unfold State.laneSummary
  split
  · exact .refl s
  · refine .after (.originateAll ?_) (.of_eq rfl rfl rfl rfl)
    simp only [List.forall_mem_cons, List.not_mem_nil, false_implies, implies_true, and_true]
    exact ⟨⟨State.notice_frameOf rfl _ s, rfl⟩, State.notice_frameOf rfl _ s, rfl⟩

theorem Notified.helmSummary (s : State) : Notified [] 0 s s.helmSummary := by
  unfold State.helmSummary
  refine .after (.originateAll (List.forall_mem_cons.mpr ⟨?helm, List.forall_mem_map.mpr fun a _ => ?actuator⟩))
    (.of_eq rfl rfl rfl rfl)
  case helm => exact ⟨State.notice_frameOf rfl _ s, rfl⟩
  case actuator => exact ⟨State.notice_frameOf rfl _ s, rfl⟩

theorem Notified.coupSummary (c : Fin 32) (s : State) : Notified [] 0 s (s.coupSummary c) := by
  unfold State.coupSummary
  split
  · exact .refl s
  · exact .after (.originate rfl (by decide) _ _) (.of_eq rfl rfl rfl rfl)

theorem Notified.commandState (s : State) : Notified [] 0 s s.commandState := by
  unfold State.commandState
  exact .after (.originate rfl (by decide) _ _) (.of_eq rfl rfl rfl rfl)

theorem Notified.forAll {n : Nat} {f : Fin n → State → State} (h : ∀ i s, Notified [] 0 s (f i s)) (s : State) :
    Notified [] 0 s (forAll n f s) := by
  suffices ∀ (is : List (Fin n)) (s : State), Notified [] 0 s (forEach is f s) from this _ s
  intro is
  induction is with
  | nil => exact .refl
  | cons i is ih => exact fun s => (h i s).trans (ih (f i s))

theorem Notified.ite {b : Bool} {f : State → State} {s : State} (h : Notified [] 0 s (f s)) :
    Notified [] 0 s (if b then f s else s) := by
  cases b
  · exact .refl s
  · exact h

/-- The summaries queued as an event ends. -/
theorem Notified.flush (s : State) : Notified [] 0 s s.flush := by
  have hlanes := (Notified.of_eq (s := s) (t := { s with due := Due.none }) rfl rfl rfl rfl).trans
    (.forAll (n := 4) (fun l s' => .ite (b := s.due.lanes.get l) (.laneSummary l s')) _)
  have hhelm := hlanes.trans (.ite (b := s.due.helm) (.helmSummary _))
  have hcouplings := hhelm.trans
    (.forAll (n := 32) (fun c s' => .ite (b := s.due.couplings.get c) (.coupSummary c s')) _)
  exact hcouplings.trans (.ite (b := s.due.command) (.commandState _))

end Sys2Proof.Machine
end

section
/-!
PROOFS. The part as it takes a MGMT_REQUEST part from the head of B: what reassembly does with it (R10 to R12, R16), and what
the answer of an event looks like.
-/

namespace Sys2Proof.Machine

/-! ## One event -/

/-- The step of a part that is not held in reset: its effect, then the summaries (R170). -/
theorem event_of_awake {t : Nat} {k : State → State} {s : State} (h : s.held = false) :
    event t k s = .next (k (s.at t)).flush := by
  rw [event, State.at_held, h, if_neg Bool.false_ne_true]

/-! ## Effects that queue nothing and raise nothing -/

/-- An effect that leaves the clock, the node number, the flags and the egress side of every port as they are. -/
structure Silent (s w : State) : Prop where
  now  : w.now = s.now
  node : w.node = s.node
  flag : ∀ e, w.flag e = s.flag e
  out  : ∀ p, (w.port p).out = (s.port p).out

theorem Silent.refl (s : State) : Silent s s := ⟨rfl, rfl, fun _ => rfl, fun _ => rfl⟩

theorem Silent.trans {s t u : State} (h : Silent s t) (g : Silent t u) : Silent s u :=
  ⟨g.now.trans h.now, g.node.trans h.node, fun e => (g.flag e).trans (h.flag e), fun p => (g.out p).trans (h.out p)⟩

theorem Silent.egress {s w : State} (h : Silent s w) (p : Port) : (w.port p).egress = (s.port p).egress :=
  congrArg (fun ps => ps.egress) (h.out p)

theorem Silent.setSlot (i : Fin 2) (a : Option Assembly) (s : State) : Silent s (s.setSlot i a) :=
  ⟨rfl, rfl, fun _ => rfl, fun p => by cases p <;> rfl⟩

theorem Silent.dropSlot (source : Nat) (s : State) : Silent s (s.dropSlot source) := by
  unfold State.dropSlot
  split
  · exact .setSlot _ _ s
  · exact .refl s

theorem Silent.countMalformed (p : Port) (s : State) : Silent s (s.countMalformed p) := by
  refine ⟨State.setPort_now _ _ _, State.setPort_node _ _ _, fun e => ?_, fun p' => ?_⟩
  · rw [State.flag, State.flag, State.countMalformed, State.setPort_mgmt]
  · rw [State.countMalformed, State.port_setPort]
    split
    · next h => subst h; rfl
    · rfl

/-- A silent effect and the notices that follow it look like the effect alone. -/
theorem Silent.looksLike {s w u : State} {es : List Event} {c : Nat} (h : Silent s w) (g : Notified es c w u)
    (hquiet : u.quiet = w.quiet) : LooksLike s w u es :=
  ⟨g.now.trans h.now, hquiet, fun e he hes => (g.flags e he hes).trans (h.flag e)⟩

theorem Silent.queuesNothing {s w u : State} {es : List Event} {c : Nat} (h : Silent s w) (g : Notified es c w u) :
    QueuesNothing s u := fun p hp => by rw [g.port p hp, h.out p]

/-! ## Replies (R13) -/

theorem State.originateAll_port_ne {p : Port} (h : p ≠ .B) (fs : List CmsFrame) (s : State) :
    (s.originateAll .B fs).port p = s.port p := by
  induction fs generalizing s with
  | nil => rfl
  | cons f fs ih =>
    rw [State.originateAll_cons]
    split
    · rw [State.raiseCongested_port_ne h, ih, State.enqueue_port_ne h]
    · rw [ih, State.enqueue_port_ne h]

@[simp] theorem State.reply_now (target : Nat) (code : Byte) (r : Result) (body : List Byte) (s : State) :
    (s.reply target code r body).now = s.now := (Calm.reply target code r body s).now

theorem State.reply_flag {e : Event} (h : e ≠ .portCongested) (target : Nat) (code : Byte) (r : Result)
    (body : List Byte) (s : State) : (s.reply target code r body).flag e = s.flag e :=
  State.originateAll_flag h .B _ s

theorem State.reply_port_ne {p : Port} (h : p ≠ .B) (target : Nat) (code : Byte) (r : Result) (body : List Byte)
    (s : State) : (s.reply target code r body).port p = s.port p := State.originateAll_port_ne h _ s

/-- A reply of at most 64 bytes is at most 8 frames. -/
theorem State.replyFrames_length {target : Nat} {bytes : List Byte} {s : State} (h : bytes.length ≤ 64) :
    (s.replyFrames target bytes).length ≤ 8 := by
  simp only [State.replyFrames, List.length_map, List.length_range]
  omega

theorem State.replyFrames_congr {s t : State} (h : t.node = s.node) (target : Nat) (bytes : List Byte) :
    t.replyFrames target bytes = s.replyFrames target bytes := by
  simp only [State.replyFrames, h]

/-- A reply keeps its place in B's queue while notices follow it. -/
theorem Silent.replies {s w u : State} {es : List Event} {c target : Nat} {code : Byte} {r : Result} {body : List Byte}
    (h : Silent s w) (hbody : body.length ≤ 62) (hc : c ≤ 20)
    (g : Notified es c (w.reply target code r body) u) : Replies s u target (code :: byte r.number :: body) := by
  intro hroom
  refine ⟨[], by simp, ?_⟩
  have hlen : (w.replyFrames target (code :: byte r.number :: body)).length ≤ 8 :=
    State.replyFrames_length (by simp only [List.length_cons]; omega)
  have hreply : ((w.reply target code r body).port .B).egress
      = (s.port .B).egress ++ s.replyFrames target (code :: byte r.number :: body) := by
    rw [State.reply, State.originateAll_egress (by rw [h.egress]; omega), h.egress, State.replyFrames_congr h.node]
  have hfront := g.front _ 1 (by rw [hreply, List.length_append, ← State.replyFrames_congr h.node]; omega)
    (State.fronted_self _)
  rw [List.append_nil, ← hreply]
  exact hfront.isPrefix

/-- A silent effect, its reply, and the notices that follow look like the effect alone. -/
theorem Silent.looksLike_reply {s w u : State} {es : List Event} {c target : Nat} {code : Byte} {r : Result}
    {body : List Byte} (h : Silent s w) (g : Notified es c (w.reply target code r body) u)
    (hquiet : u.quiet = w.quiet) : LooksLike s w u es :=
  ⟨by rw [g.now, State.reply_now, h.now], hquiet,
    fun e he hes => by rw [g.flags e he hes, State.reply_flag he, h.flag]⟩

/-! ## PART_ERROR (R10 to R12) -/

/-- An event raised, and the summaries queued. -/
theorem Notified.raise_flush {e : Event} (h : e ≠ .portCongested) (d : Option Nat) (s : State) :
    Notified [e] 1 s (s.raise e d).flush := (Notified.raise h d s).trans (.flush _)

theorem State.raise_flush_flag {e : Event} (h : e ≠ .portCongested) (d : Option Nat) (s : State) :
    ((s.raise e d).flush).flag e = (s.flag e).raise d :=
  ((Notified.flush (s.raise e d)).flags e h List.not_mem_nil).trans (State.raiseWith_flag_self h d _ s)

theorem Event.partError_ne_portCongested : Event.partError ≠ Event.portCongested := nofun

/-! ## A part handed to the management block (R16) -/

/-- The frames that R16 hands to the management block. -/
theorem State.fate_eq_toManagement {s : State} {p : Port} {q : Received} : s.fate p q = .toManagement ↔
    q.isMalformed s.node = false ∧ q.isAddressed s.node = true ∧ q.kind = some .mgmtRequest ∧ p = .B := by
  have hmode : s.fateByMode q ≠ .toManagement := by
    unfold State.fateByMode
    split
    · nofun
    · split <;> nofun
  unfold State.fate
  cases q.isMalformed s.node with
  | true => simp
  | false =>
    cases q.isAddressed s.node with
    | true => grind
    | false => grind

/-- A frame delivered to an owner is not handed to the management block. -/
theorem State.deliver_ne_managed (p : Port) (q q' : Received) (s s' : State) : s.deliver p q ≠ .managed q' s' := by
  unfold State.deliver
  split
  · nofun
  · split
    · nofun
    · split
      · nofun
      · split <;> nofun

/-- The switch hands a frame to the management block as R16 says, and does nothing else with it. -/
theorem State.sort_eq_managed {s s' : State} {p : Port} {q q' : Received} : s.sort p q = .managed q' s' ↔
    s.fate p q = .toManagement ∧ q' = q ∧ s' = s := by
  unfold State.sort
  cases s.fate p q with
  | malformed => simp
  | toManagement => simp [eq_comm]
  | passThrough => dsimp only; split <;> simp [State.deliver_ne_managed]
  | routed e => dsimp only; split <;> simp [State.deliver_ne_managed]
  | unrouted => simp

theorem State.sortHead_of_cons {s : State} {p : Port} {q : Received} {rest : List Received}
    (h : (s.port p).ingress = q :: rest) :
    s.sortHead p = some ((s.setPort p { s.port p with ingress := rest }).sort p q) := by
  simp only [State.sortHead, State.popHead, h]

theorem State.sortHead_of_nil {s : State} {p : Port} (h : (s.port p).ingress = []) : s.sortHead p = none := by
  simp only [State.sortHead, State.popHead, h]

/-- The head of B's queue is handed on: when it is, and what is left. -/
theorem State.handed_iff {t : Nat} {s s1 : State} {q : Received} : s.handed t = some (q, s1) ↔
    s.held = false ∧ ∃ rest, s.switch.B.ingress = q :: rest ∧ q.isMalformed s.node = false
      ∧ q.isAddressed s.node = true ∧ q.kind = some .mgmtRequest
      ∧ s1 = (s.at t).setPort .B { s.switch.B with ingress := rest } := by
  have hsorted : s.handed t = some (q, s1) ↔ s.held = false ∧ (s.at t).sortHead .B = some (.managed q s1) := by
    unfold State.handed State.sorted
    cases hheld : s.held <;> simp [hheld]
    split <;> simp_all
  rw [hsorted]
  refine and_congr_right fun _ => ?_
  cases hqueue : s.switch.B.ingress with
  | nil => rw [State.sortHead_of_nil (s := s.at t) (p := .B) hqueue]; simp
  | cons q' rest =>
    rw [State.sortHead_of_cons (s := s.at t) (p := .B) hqueue, Option.some_inj, State.sort_eq_managed,
      State.fate_eq_toManagement, State.setPort_node]
    constructor
    · rintro ⟨⟨hok, haddressed, hkind, -⟩, rfl, rfl⟩
      exact ⟨rest, rfl, hok, haddressed, hkind, rfl⟩
    · rintro ⟨_, heq, hok, haddressed, hkind, rfl⟩
      obtain ⟨rfl, rfl⟩ := List.cons_eq_cons.mp heq
      exact ⟨⟨hok, haddressed, hkind, rfl⟩, rfl, rfl⟩

/-- The row of request parts on B gives the part handed on to reassembly, and ends the event. -/
theorem exec_mgmtRequestPart_of_handed {t : Nat} {s s1 : State} {q : Received} (h : s.handed t = some (q, s1)) :
    exec (.mgmtRequestPart t .B) s = .next (s1.requestPart q).flush := by
  obtain ⟨hheld, rest, hqueue, hok, haddressed, hkind, rfl⟩ := State.handed_iff.mp h
  have hport : ((s.at t).port .B).ingress = q :: rest := hqueue
  have hsort := State.sort_eq_managed.mpr ⟨State.fate_eq_toManagement
    (s := (s.at t).setPort .B { s.switch.B with ingress := rest }) |>.mpr ⟨hok, haddressed, hkind, rfl⟩, rfl, rfl⟩
  have hhead : (s.at t).sortHead .B = some (.managed q _) := (State.sortHead_of_cons hport).trans (congrArg some hsort)
  have heffect : (s.at t).onRequestPart .B = (s.at t).classifyHead .B := by
    simp only [State.onRequestPart, hport]
    exact if_pos ⟨hkind, haddressed⟩
  calc exec (.mgmtRequestPart t .B) s
      = event t (State.onRequestPart .B) s := rfl
    _ = .next ((s.at t).classifyHead .B).flush := by rw [event_of_awake hheld, heffect]
    _ = _ := by rw [State.classifyHead, hhead]

theorem State.requestPart_of_none {s w : State} {q : Received} (h : s.takePart q = (w, none)) : s.requestPart q = w := by
  rw [State.requestPart, h]

/-- A message that a part completes (R10, R11). -/
theorem State.completed_of_takePart {t : Nat} {s s1 w : State} {q : Received} {m : List Byte}
    (h : s.handed t = some (q, s1)) (htake : s1.takePart q = (w, some m)) :
    s.completed t = some (q.frame.id.source.toNat, m, w) := by
  rw [State.completed, h]
  simp only [htake]

/-! ## The three ways in which reassembly answers a part -/

section
variable {t : Nat} {s s1 w : State} {q : Received} (hq : s.handed t = some (q, s1)) (hw : Silent s1 w)
include hq hw

/-- A part stored, or dropped and counted: no reply, no event. -/
theorem becomes_of_silent_part (htake : s1.takePart q = (w, none)) :
    Becomes (.mgmtRequestPart t .B) s s1 w [] (QueuesNothing s1) :=
  ⟨w.flush, by rw [exec_mgmtRequestPart_of_handed hq, State.requestPart_of_none htake],
    hw.looksLike (.flush w) (State.quiet_flush w), hw.queuesNothing (.flush w)⟩

/-- A part answered with a reply alone. -/
theorem becomes_of_answered_part {target : Nat} {code : Byte} {r : Result}
    (htake : s1.takePart q = (w.reply target code r [], none)) :
    Becomes (.mgmtRequestPart t .B) s s1 w [] fun u =>
      QueuesNothing s1 u ∧ Replies s1 u target [code, byte r.number] := by
  have hflush := Notified.flush (w.reply target code r [])
  refine ⟨_, by rw [exec_mgmtRequestPart_of_handed hq, State.requestPart_of_none htake],
    hw.looksLike_reply hflush (by rw [State.quiet_flush, State.quiet_reply]), fun p hp => ?_,
    hw.replies (Nat.zero_le _) (Nat.zero_le _) hflush⟩
  rw [hflush.port p hp, State.reply_port_ne hp, hw.out p]

/-- A part answered with PART_ERROR. -/
theorem becomes_of_refused_part {source : Nat} {code : Byte} (htake : s1.takePart q = (w.partError source code, none)) :
    Becomes (.mgmtRequestPart t .B) s s1 w [.partError] fun u =>
      Raised s1 u .partError (some source) ∧ Replies s1 u source [code, 9#8] := by
  have hraise := Notified.raise_flush Event.partError_ne_portCongested (some source) (w.reply source code .partError [])
  refine ⟨_, by rw [exec_mgmtRequestPart_of_handed hq, State.requestPart_of_none htake, State.partError],
    hw.looksLike_reply hraise (by rw [State.quiet_flush, State.quiet_raise, State.quiet_reply]), ?_,
    hw.replies (Nat.zero_le _) (by decide) hraise⟩
  rw [Raised, State.raise_flush_flag Event.partError_ne_portCongested,
    State.reply_flag Event.partError_ne_portCongested, hw.flag]
end

/-! ## What reassembly does with a part 0 (R10) -/

section
variable {s : State} {q : Received} (hpart : q.frame.id.part = 0#3)
include hpart

theorem State.takePart_first :
    s.takePart q = s.firstPart q.frame.id.source.toNat q.frame.id.last q.frame.data := if_pos hpart

theorem State.takePart_first_opens (hlast : q.frame.id.last = false) (hlen : q.frame.data.length = 8) :
    s.takePart q = (s.openSlot q.frame.id.source.toNat q.frame.data, none) := by
  have hne : q.frame.data ≠ [] := List.ne_nil_of_length_pos (by omega)
  simp [State.takePart_first hpart, State.firstPart, hlast, hlen, hne]

theorem State.takePart_first_short (hlast : q.frame.id.last = false) (hne : 1 ≤ q.frame.data.length)
    (hlen : q.frame.data.length < 8) :
    s.takePart q = ((s.dropSlot q.frame.id.source.toNat).partError q.frame.id.source.toNat (q.frame.data.getD 0 0),
      none) := by
  have hne : q.frame.data ≠ [] := List.ne_nil_of_length_pos hne
  simp [State.takePart_first hpart, State.firstPart, hlast, hlen, hne]

theorem State.takePart_first_empty (hlast : q.frame.id.last = false) (hdata : q.frame.data = []) :
    s.takePart q = ((s.dropSlot q.frame.id.source.toNat).countMalformed .B, none) := by
  simp [State.takePart_first hpart, State.firstPart, hlast, hdata]

theorem State.takePart_only_empty (hlast : q.frame.id.last = true) (hdata : q.frame.data = []) :
    s.takePart q = (s.countMalformed .B, none) := by
  simp [State.takePart_first hpart, State.firstPart, hlast, hdata]

theorem State.takePart_only_completes (hlast : q.frame.id.last = true) (hdata : q.frame.data ≠ []) :
    s.takePart q = (s.dropSlot q.frame.id.source.toNat, some q.frame.data) := by
  simp [State.takePart_first hpart, State.firstPart, hlast, hdata]
end

theorem State.openSlot_of_open {s : State} {source : Nat} {i : Fin 2} (h : s.slotOf source = some i) (data : List Byte) :
    s.openSlot source data = s.setSlot i (some (assemblyOf source data s.now)) := by
  simp only [State.openSlot, h]

theorem State.openSlot_of_free {s : State} {source : Nat} {i : Fin 2} (h : s.slotOf source = none)
    (hfree : s.freeSlot = some i) (data : List Byte) :
    s.openSlot source data = s.setSlot i (some (assemblyOf source data s.now)) := by
  simp only [State.openSlot, h, hfree]

theorem State.openSlot_of_full {s : State} {source : Nat} (h : s.slotOf source = none) (hfree : s.freeSlot = none)
    (data : List Byte) : s.openSlot source data = s.reply source (data.getD 0 0) .busy [] := by
  simp only [State.openSlot, h, hfree]

/-! ## What reassembly does with a later part (R11) -/

section
variable {s : State} {q : Received} (hpart : q.frame.id.part ≠ 0#3)
include hpart

theorem State.takePart_later : s.takePart q =
    s.laterPart q.frame.id.source.toNat q.frame.id.part.toNat q.frame.id.last q.frame.data := if_neg hpart

theorem State.takePart_later_unopened (hslot : s.slotOf q.frame.id.source.toNat = none) :
    s.takePart q = (s.countMalformed .B, none) := by
  simp only [State.takePart_later hpart, State.laterPart, hslot]

variable {i : Fin 2} {a : Assembly} (hslot : s.slotOf q.frame.id.source.toNat = some i)
  (ha : s.mgmt.slots.get i = some a)
include hslot ha

theorem State.takePart_later_stored (hnext : a.next = q.frame.id.part.toNat) (hlast : q.frame.id.last = false)
    (hlen : q.frame.data.length = 8) (hpart6 : q.frame.id.part.toNat ≤ 6) :
    s.takePart q = (s.setSlot i (some { a with
      next := q.frame.id.part.toNat + 1, bytes := a.bytes ++ q.frame.data, expiry := s.now + 500 }), none) := by
  have hpart7 : q.frame.id.part.toNat ≠ 7 := by omega
  simp [State.takePart_later hpart, State.laterPart, hslot, ha, hnext, hlast, hlen, hpart7]

theorem State.takePart_later_completes (hnext : a.next = q.frame.id.part.toNat) (hlast : q.frame.id.last = true)
    (hdata : q.frame.data ≠ []) :
    s.takePart q = (s.setSlot i none, some (a.bytes ++ q.frame.data)) := by
  simp [State.takePart_later hpart, State.laterPart, hslot, ha, hnext, hlast, hdata]

theorem State.takePart_later_refused (hbad : a.next ≠ q.frame.id.part.toNat
      ∨ (q.frame.id.last = true ∧ q.frame.data = [])
      ∨ (q.frame.id.last = false ∧ (q.frame.data.length < 8 ∨ q.frame.id.part.toNat = 7))) :
    s.takePart q = ((s.setSlot i none).partError q.frame.id.source.toNat a.code, none) := by
  by_cases hnext : a.next = q.frame.id.part.toNat
  · rcases hbad with hbad | ⟨hlast, hdata⟩ | ⟨hlast, hshort⟩
    · exact absurd hnext hbad
    · simp [State.takePart_later hpart, State.laterPart, hslot, ha, hnext, hlast, hdata]
    · simp [State.takePart_later hpart, State.laterPart, hslot, ha, hnext, hlast, hshort]
  · simp [State.takePart_later hpart, State.laterPart, hslot, ha, hnext]
end

/-! ## The assembly timer (R12) -/

theorem State.assemblyExpires_of_due {s : State} {i : Fin 2} {a : Assembly} (ha : s.mgmt.slots.get i = some a)
    (hdue : a.expiry ≤ s.now) :
    s.assemblyExpires i = ((s.setSlot i none).countMalformed .B).raise .partError (some a.source) := by
  simp only [State.assemblyExpires, ha, if_pos hdue]

/-- The slot given up, the malformed frame counted, PART_ERROR raised, and no reply. -/
theorem becomes_of_assembly_expiry {t : Nat} {i : Fin 2} {s : State} {a : Assembly} (hheld : s.held = false)
    (ha : s.mgmt.slots.get i = some a) (hdue : a.expiry ≤ (s.at t).now) :
    Becomes (.assemblyTimerExpiry t i) s (s.at t) ((s.setSlot i none).countMalformed .B) [.partError] fun u =>
      QueuesNothing s u ∧ Raised s u .partError (some a.source)
      ∧ ∀ f ∈ (u.port .B).egress, f.id.kind = MsgKind.mgmtReply.number → f ∈ (s.port .B).egress := by
  have hw : Silent (s.at t) (((s.at t).setSlot i none).countMalformed .B) :=
    (Silent.setSlot i none _).trans (.countMalformed .B _)
  have hraise := Notified.raise_flush Event.partError_ne_portCongested (some a.source)
    (((s.at t).setSlot i none).countMalformed .B)
  have hexec : exec (.assemblyTimerExpiry t i) s = .next ((s.at t).assemblyExpires i).flush :=
    event_of_awake (k := State.assemblyExpires i) hheld
  refine ⟨_, by rw [hexec, State.assemblyExpires_of_due (s := s.at t) ha hdue], hw.looksLike hraise ?quiet,
    hw.queuesNothing hraise, ?raised, fun f hf hkind => ?unreplied⟩
  case quiet => exact (State.quiet_flush _).trans (State.quiet_raise _ _ _)
  case raised =>
    rw [Raised, State.raise_flush_flag Event.partError_ne_portCongested, hw.flag]
    rfl
  case unreplied =>
    rcases hraise.frames f hf with hold | hnotice
    · rwa [hw.egress] at hold
    · exact absurd hkind hnotice.kind_ne_mgmtReply

end Sys2Proof.Machine

open Sys2Proof Sys2Proof.Machine

/-- Settles O12: R16 by `State.handed_iff`, R10 and R11 by what reassembly does with each part, R12 by its timer. -/
theorem requestsAreReassembledInTheirSlots : Obligations.RequestsAreReassembledInTheirSlots := by
  unfold Obligations.RequestsAreReassembledInTheirSlots
  refine ⟨⟨?handed, ?first⟩, ?later, fun t i s a hheld ha hdue => becomes_of_assembly_expiry hheld ha hdue⟩
  case handed =>
    intro t s q rest hheld hqueue hok hkind htarget
    have hrequest : q.kind = some .mgmtRequest := by rw [Received.kind, hkind]; decide
    have haddressed : q.isAddressed s.node = true := beq_iff_eq.mpr htarget
    exact State.handed_iff.mpr ⟨hheld, rest, hqueue, hok, haddressed, hrequest, rfl⟩
  case first =>
    intro t s s1 q hq hpart source data fresh
    refine ⟨?restarts, ?opens, ?busy, ?short, ?empty, ?onlyEmpty, ?completes⟩
    case restarts =>
      intro i hlast hlen hslot
      exact becomes_of_silent_part hq (.setSlot i _ s1)
        ((State.takePart_first_opens hpart hlast hlen).trans (by rw [State.openSlot_of_open hslot]; rfl))
    case opens =>
      intro i hlast hlen hslot hfree
      exact becomes_of_silent_part hq (.setSlot i _ s1)
        ((State.takePart_first_opens hpart hlast hlen).trans (by rw [State.openSlot_of_free hslot hfree]; rfl))
    case busy =>
      intro hlast hlen hslot hfree
      exact becomes_of_answered_part (r := .busy) hq (.refl s1)
        ((State.takePart_first_opens hpart hlast hlen).trans (by rw [State.openSlot_of_full hslot hfree]))
    case short =>
      intro hlast hne hlen
      exact becomes_of_refused_part hq (.dropSlot source s1) (State.takePart_first_short hpart hlast hne hlen)
    case empty =>
      intro hlast hdata
      exact becomes_of_silent_part hq ((Silent.dropSlot source s1).trans (.countMalformed .B _))
        (State.takePart_first_empty hpart hlast hdata)
    case onlyEmpty =>
      intro hlast hdata
      exact becomes_of_silent_part hq (.countMalformed .B s1) (State.takePart_only_empty hpart hlast hdata)
    case completes =>
      intro hlast hdata
      exact State.completed_of_takePart hq (State.takePart_only_completes hpart hlast hdata)
  case later =>
    intro t s s1 q hq hpart source data k
    refine ⟨fun hslot => ?unopened, fun i a hslot ha => ⟨?stored, ?completes, fun hbad => ?refused⟩⟩
    case unopened =>
      exact becomes_of_silent_part hq (.countMalformed .B s1) (State.takePart_later_unopened hpart hslot)
    case stored =>
      intro hnext hlast hlen hpart6
      exact becomes_of_silent_part hq (.setSlot i _ s1)
        (State.takePart_later_stored hpart hslot ha hnext hlast hlen hpart6)
    case completes =>
      intro hnext hlast hdata
      exact State.completed_of_takePart hq (State.takePart_later_completes hpart hslot ha hnext hlast hdata)
    case refused =>
      exact becomes_of_refused_part hq (.setSlot i none s1) (State.takePart_later_refused hpart hslot ha hbad)
end

section
/-!
PROOFS. The bounds of the queues (R14, R26) and the order of the route table (R19): no operation of a block breaks them, and
so no step does.
-/

namespace Sys2Proof.Machine

/-- From `s` to `t` the two laws of the frame switch are kept: the bounds of the queues and the order of the route table. -/
structure Keeps (s t : State) : Prop where
  queues : QueueLaw s → QueueLaw t
  routes : RouteLaw s → RouteLaw t

/-! ## What keeps the laws of the switch -/

theorem Keeps.refl (s : State) : Keeps s s := ⟨id, id⟩

theorem Keeps.trans {s t u : State} (h : Keeps s t) (g : Keeps t u) : Keeps s u :=
  ⟨g.queues ∘ h.queues, g.routes ∘ h.routes⟩

theorem RouteLaw.congr {s t : State} (h : t.switch.routes = s.switch.routes) (hs : RouteLaw s) : RouteLaw t := by
  rwa [RouteLaw, h]

theorem Keeps.of_ports {s t : State} (hports : ∀ p, t.port p = s.port p)
    (hroutes : t.switch.routes = s.switch.routes) : Keeps s t :=
  ⟨fun hs p => hports p ▸ hs p, RouteLaw.congr hroutes⟩

/-- A write to any other block. -/
theorem Keeps.of_switch {s t : State} (h : t.switch = s.switch) : Keeps s t :=
  .of_ports (State.port_congr h) (congrArg Switch.routes h)

/-- A port replaced by one within its bounds. -/
theorem Keeps.setPort {p : Port} {ps : PortState} {s : State}
    (hin : (s.port p).ingress.length ≤ 32 → ps.ingress.length ≤ 32)
    (hout : (s.port p).egress.length ≤ 48 → ps.egress.length ≤ 48) : Keeps s (s.setPort p ps) where
  queues hs p' := by
    rw [State.port_setPort]
    split
    · exact ⟨hin (hs p).1, hout (hs p).2⟩
    · exact hs p'
  routes := RouteLaw.congr (State.setPort_routes p ps s)

theorem Driven.ingress {s t : State} (h : Driven s t) (p : Port) : (t.port p).ingress = (s.port p).ingress := by
  cases p
  · exact congrArg (fun u => u.switch.B.ingress) h.fixed
  · exact congrArg (fun u => u.switch.M.ingress) h.fixed
  · exact congrArg (fun u => u.switch.T.ingress) h.fixed

/-- An operation of the drives. -/
theorem Keeps.of_driven {s t : State} (h : Driven s t) : Keeps s t :=
  ⟨fun hs p => ⟨h.ingress p ▸ (hs p).1, h.bound p (hs p).2⟩, RouteLaw.congr h.routes⟩

theorem Keeps.cond {s₀ s t : State} {p : Prop} [Decidable p] (h : Keeps s₀ s) (g : Keeps s₀ t) :
    Keeps s₀ (if p then s else t) := by
  split
  · exact h
  · exact g

section
variable {s₀ s : State} (h : Keeps s₀ s)
include h

theorem Keeps.switch {t : State} (g : t.switch = s.switch) : Keeps s₀ t := h.trans (.of_switch g)

theorem Keeps.driven {t : State} (g : Driven s t) : Keeps s₀ t := h.trans (.of_driven g)

theorem Keeps.raiseWith {e : Event} {d : Option Nat} {data : List Byte} : Keeps s₀ (s.raiseWith e d data) :=
  h.driven (.of_calm (.raiseWith e d data s))

theorem Keeps.raise {e : Event} {d : Option Nat} : Keeps s₀ (s.raise e d) := h.raiseWith

theorem Keeps.order {p : Port} {k : MsgKind} {target : Nat} {data : List Byte} : Keeps s₀ (s.order p k target data) :=
  h.driven (.order p k target data s)

theorem Keeps.originate {p : Port} {k : MsgKind} {target : Nat} {data : List Byte} :
    Keeps s₀ (s.originate p k target data) := h.driven (.of_calm (.originate p k target data s))

theorem Keeps.originateAll {p : Port} {fs : List CmsFrame} : Keeps s₀ (s.originateAll p fs) :=
  h.driven (.of_calm (.originateAll p fs s))

theorem Keeps.offer {p : Port} {o : Origin} {f : CmsFrame} : Keeps s₀ (s.offer p o f) :=
  h.driven (.of_calm (.offer p o f s))

theorem Keeps.forAll {n : Nat} {f : Fin n → State → State} (g : ∀ i s, Keeps s (f i s)) : Keeps s₀ (forAll n f s) := by
  have walk : ∀ (is : List (Fin n)) (s : State), Keeps s₀ s → Keeps s₀ (forEach is f s) := by
    intro is
    induction is with
    | nil => exact fun _ h => h
    | cons i is ih => exact fun s h => ih (f i s) (h.trans (g i s))
  exact walk _ s h

theorem Keeps.dueCommand : Keeps s₀ s.dueCommand := h.switch (by rfl)
theorem Keeps.putAct {a : Fin 8} {r : ActRec} : Keeps s₀ (s.putAct a r) := h.driven (.putAct a r s)
theorem Keeps.putCoup {c : Fin 32} {r : CoupRec} : Keeps s₀ (s.putCoup c r) := h.driven (.putCoup c r s)
theorem Keeps.putLane {l : Fin 4} {r : LaneRec} : Keeps s₀ (s.putLane l r) := h.driven (.putLane l r s)
theorem Keeps.dueLane {l : Fin 4} : Keeps s₀ (s.dueLane l) := h.switch (by rfl)
theorem Keeps.dueHelm : Keeps s₀ s.dueHelm := h.switch (by rfl)
theorem Keeps.dueCoupling {c : Fin 32} : Keeps s₀ (s.dueCoupling c) := h.switch (by rfl)
theorem Keeps.postCeilings {on : LaneRow → Bool} {f : LaneRow → Ceilings → Ceilings} :
    Keeps s₀ (s.postCeilings on f) := h.driven (.postCeilings on f s)
theorem Keeps.putAcct {k : Fin 16} {a : TankAcct} : Keeps s₀ (s.putAcct k a) := h.switch (by rfl)
theorem Keeps.putChan {ch : Fin 8} {r : ChanRec} : Keeps s₀ (s.putChan ch r) := h.switch (by rfl)
theorem Keeps.putActive {x : Option Xfer} : Keeps s₀ (s.putActive x) := h.switch (by rfl)
theorem Keeps.setMode {m : Mode} : Keeps s₀ (s.setMode m) := h.switch (by rfl)
theorem Keeps.setSlot {i : Fin 2} {a : Option Assembly} : Keeps s₀ (s.setSlot i a) := h.switch (by rfl)
theorem Keeps.setArming {a : Option Arming} : Keeps s₀ (s.setArming a) := h.switch (by rfl)
theorem Keeps.countRefusal {i : Fin 4} : Keeps s₀ (s.countRefusal i) := h.switch (by rfl)
theorem Keeps.setSounding {k : Fin 16} {kg : Option Nat} : Keeps s₀ (s.setSounding k kg) := h.switch (by rfl)
theorem Keeps.refuseOrder {source : Nat} {o : CoupOrder} {c : Option (Fin 32)} {why : CoupReason} :
    Keeps s₀ (s.refuseOrder source o c why) := h.driven (.refuseOrder source o c why s)

/-! ## The summaries as an event ends -/

theorem Keeps.laneSummary {l : Fin 4} : Keeps s₀ (s.laneSummary l) := by
  unfold State.laneSummary
  split
  · exact h
  · exact .originateAll (h.switch (by rfl))

theorem Keeps.helmSummary : Keeps s₀ s.helmSummary := .originateAll (h.switch (by rfl))

theorem Keeps.coupSummary {c : Fin 32} : Keeps s₀ (s.coupSummary c) := by
  unfold State.coupSummary
  split
  · exact h
  · exact .originate (h.switch (by rfl))

theorem Keeps.commandState : Keeps s₀ s.commandState := .originate (h.switch (by rfl))

theorem Keeps.flush : Keeps s₀ s.flush := by
  have hlanes : Keeps s₀ (Machine.forAll 4 (fun l s' => if s.due.lanes.get l then s'.laneSummary l else s')
      { s with due := Due.none }) :=
    .forAll (h.switch (by rfl)) fun l s' => .cond (Keeps.refl s').laneSummary (.refl s')
  have hhelm := Keeps.cond (p := s.due.helm = true) hlanes.helmSummary hlanes
  have hcoups := hhelm.forAll (f := fun c s' => if s.due.couplings.get c then s'.coupSummary c else s')
    fun c s' => .cond (Keeps.refl s').coupSummary (.refl s')
  exact .cond hcoups.commandState hcoups

end
end Sys2Proof.Machine
end

section
/-!
PROOFS. The operations of the drives, of fuel and of transfers keep the laws of the frame switch.
-/

namespace Sys2Proof.Machine

section
variable {s₀ s : State} (h : Keeps s₀ s)
include h

/-! ## The steering allocator (chapter 6) -/

theorem Keeps.evaluateAll : Keeps s₀ s.evaluateAll := h.driven (.evaluateAll s)
theorem Keeps.orderAct {a : Fin 8} : Keeps s₀ (s.orderAct a) := h.driven (.orderAct a s)
theorem Keeps.adoptAct {a : Fin 8} {row : ActRow} {v : Int} {arrival : Nat} : Keeps s₀ (s.adoptAct a row v arrival) :=
  h.driven (.adoptAct a row v arrival s)

theorem Keeps.takeSteer {q : Received} : Keeps s₀ (s.takeSteer q) := by
  unfold State.takeSteer
  split
  · exact h
  · split
    · exact h
    · dsimp only
      refine .cond ?_ (.cond h.putAct h.putAct.dueHelm)
      split
      · exact .adoptAct (.cond h.putAct h.putAct.dueHelm)
      · exact .adoptAct (.cond h.putAct h.putAct.dueHelm)
      · exact .putAct (.cond h.putAct h.putAct.dueHelm)
      · exact .cond h.putAct h.putAct.dueHelm

theorem Keeps.setHelm {v : Int} : Keeps s₀ (s.setHelm v) :=
  .cond h (.dueHelm (.evaluateAll (h.switch (by rfl))))

theorem Keeps.actRate {a : Fin 8} : Keeps s₀ (s.actRate a) := by
  unfold State.actRate
  dsimp only
  split
  · exact .cond (.cond h.putAct h.putAct.orderAct) h
  · exact h

theorem Keeps.actRefresh {a : Fin 8} : Keeps s₀ (s.actRefresh a) := .cond h.orderAct h

theorem Keeps.actTimeout {a : Fin 8} : Keeps s₀ (s.actTimeout a) := .cond h.putAct.raise h

theorem Keeps.unsyncAct {a : Fin 8} : Keeps s₀ (s.unsyncAct a) := h.putAct

theorem Keeps.startActTimer {a : Fin 8} : Keeps s₀ (s.startActTimer a) := by
  unfold State.startActTimer
  split
  · exact h
  · exact h.putAct

/-! ## Lanes and groups (chapters 4 and 5) -/

theorem Keeps.faultLane {l : Fin 4} {row : LaneRow} {why : LaneCause} : Keeps s₀ (s.faultLane l row why) :=
  h.driven (.faultLane l row why s)
theorem Keeps.stopLane {l : Fin 4} {row : LaneRow} {arrival : Nat} : Keeps s₀ (s.stopLane l row arrival) :=
  h.driven (.stopLane l row arrival s)
theorem Keeps.adoptLane {l : Fin 4} {row : LaneRow} {rep : EngineReport} {arrival : Nat} :
    Keeps s₀ (s.adoptLane l row rep arrival) := h.driven (.adoptLane l row rep arrival s)
theorem Keeps.orderLane {l : Fin 4} {row : LaneRow} : Keeps s₀ (s.orderLane l row) := h.driven (.orderLane l row s)
theorem Keeps.applyChange {l : Fin 4} {row : LaneRow} {d : Dir} {v : Nat} {kick : Option Nat} :
    Keeps s₀ (s.applyChange l row d v kick) := h.driven (.applyChange l row d v kick s)
theorem Keeps.groupHold {g : Fin 2} : Keeps s₀ (s.groupHold g) := h.driven (.groupHold g s)
theorem Keeps.putCeilings {l : Fin 4} {c : Ceilings} : Keeps s₀ (s.putCeilings l c) := h.driven (.putCeilings l c s)

theorem Keeps.adoptNeutral {l : Fin 4} {row : LaneRow} {arrival : Nat} : Keeps s₀ (s.adoptNeutral l row arrival) :=
  h.putLane.orderLane

theorem Keeps.gearReport {l : Fin 4} {row : LaneRow} {gear : Option Dir} {arrival : Nat} :
    Keeps s₀ (s.gearReport l row gear arrival) := by
  unfold State.gearReport
  dsimp only
  split
  case h_6 => exact .cond (h.driven (.confirmEngaged _ _ _ s)) h.faultLane
  case h_8 => exact h.driven (.confirmNeutral _ _ _ s)
  case h_3 => exact h.faultLane
  case h_9 | h_10 | h_11 | h_12 => exact .cond h h.faultLane
  all_goals exact h

theorem Keeps.engineActs {l : Fin 4} {row : LaneRow} {rep : EngineReport} {arrival : Nat} :
    Keeps s₀ (s.engineActs l row rep arrival) := by
  unfold State.engineActs
  dsimp only
  refine .cond (.cond h.putLane h.faultLane) (.cond (.cond h h.stopLane) ?_)
  split
  · exact .cond h.putLane.adoptLane h
  · exact .cond h.adoptNeutral h.putLane.adoptLane
  all_goals exact h.gearReport

theorem Keeps.takeEngine {q : Received} : Keeps s₀ (s.takeEngine q) := by
  unfold State.takeEngine
  split
  · exact h
  · split
    · exact h
    · dsimp only
      refine .cond ?_ (.cond h.putLane h.putLane.dueLane)
      split
      · exact .adoptLane (.cond h.putLane h.putLane.dueLane)
      all_goals exact .engineActs (.cond h.putLane h.putLane.dueLane)

theorem Keeps.withLane {l : Fin 4} {f : LaneRow → State} (g : ∀ row, Keeps s₀ (f row)) : Keeps s₀ (s.withLane l f) := by
  unfold State.withLane
  split
  · exact g _
  · exact h

theorem Keeps.laneSilent {l : Fin 4} : Keeps s₀ (s.laneSilent l) := h.withLane fun _ => .cond h.faultLane h
theorem Keeps.clutchExpires {l : Fin 4} : Keeps s₀ (s.clutchExpires l) := h.withLane fun _ => .cond h.faultLane h
theorem Keeps.neutralExpires {l : Fin 4} : Keeps s₀ (s.neutralExpires l) := h.withLane fun _ => .cond h.faultLane h
theorem Keeps.kickExpires {l : Fin 4} : Keeps s₀ (s.kickExpires l) := h.withLane fun _ => .cond h.applyChange h
theorem Keeps.laneRefreshes {l : Fin 4} : Keeps s₀ (s.laneRefreshes l) := h.withLane fun _ => .cond h.orderLane h

theorem Keeps.dwellExpires {l : Fin 4} : Keeps s₀ (s.dwellExpires l) := by
  refine h.withLane fun row => ?_
  dsimp only
  split
  · exact .cond (h.driven (.engage _ _ _ _ s)) h
  · exact h

theorem Keeps.rampExpires {l : Fin 4} : Keeps s₀ (s.rampExpires l) := by
  refine h.withLane fun row => ?_
  dsimp only
  split
  · exact .cond (.cond h.putLane (h.putLane.driven (.writeSetpoint _ _ _ _))) h
  · exact h

/-! ## Demands (R58, R69, R71, R83, R99) -/

theorem Keeps.refuseDemand {source : Nat} {k : MsgKind} {why : Reason} {o : Object} :
    Keeps s₀ (s.refuseDemand source k why o) := .raise (h.switch (by rfl))

theorem Keeps.laneDemand {k : MsgKind} {source index : Nat} {d : Dir} {v : Nat} {kick : Option Nat} :
    Keeps s₀ (s.laneDemand k source index d v kick) := by
  unfold State.laneDemand
  split
  · exact h.refuseDemand
  · split
    · exact h.refuseDemand
    · dsimp only
      split
      · exact h.refuseDemand
      · exact h.driven (.demandLane _ _ _ _ _ s)

theorem Keeps.groupTarget {g : Fin 2} {d : Dir} {v : Nat} : Keeps s₀ (s.groupTarget g d v) := by
  have putGroup : ∀ r, Keeps s₀ (s.putGroup g r) := fun r => h.driven (.putGroup g r s)
  exact .cond (.cond (putGroup _) h) (h.driven (.changeGroup _ _ _ s))

theorem Keeps.groupDemand {q : Received} : Keeps s₀ (s.groupDemand q) := by
  unfold State.groupDemand
  dsimp only
  split
  · exact h.refuseDemand
  · exact .cond h.refuseDemand h.groupTarget

/-! ## Tanks (chapter 8) -/

theorem Keeps.setReserve {k : Fin 16} : Keeps s₀ (s.setReserve k) := h.putAcct.postCeilings.raise
theorem Keeps.removeReserve {k : Fin 16} : Keeps s₀ (s.removeReserve k) := h.postCeilings
theorem Keeps.clearReserve {k : Fin 16} : Keeps s₀ (s.clearReserve k) := h.putAcct.removeReserve

theorem Keeps.evalReserve {k : Fin 16} : Keeps s₀ (s.evalReserve k) := by
  unfold State.evalReserve
  split
  · exact .cond (.cond h.setReserve (.cond h.clearReserve h)) h
  · exact h

theorem Keeps.freshReserve {k : Fin 16} : Keeps s₀ (s.freshReserve k) := by
  unfold State.freshReserve
  split
  · exact .cond (.cond h.setReserve h.clearReserve) h
  · exact h

theorem Keeps.overdrawn {k : Fin 16} {before : Int} : Keeps s₀ (s.overdrawn k before) := .cond h.raise h

theorem Keeps.charge {k : Fin 16} {m : Int} : Keeps s₀ (s.charge k m) := h.putAcct.overdrawn.evalReserve

theorem Keeps.moveFuel {src dst : Fin 16} {m : Nat} : Keeps s₀ (s.moveFuel src dst m) :=
  .cond h h.putAcct.putAcct.evalReserve.evalReserve.overdrawn

theorem Keeps.adjustTank {k : Fin 16} {v : Int} : Keeps s₀ (s.adjustTank k v) := h.putAcct.evalReserve

/-! ## Transfers (chapter 9) -/

theorem Keeps.pumpOrder {x : Xfer} {stop : Bool} : Keeps s₀ (s.pumpOrder x stop) := h.order
theorem Keeps.startXfer {x : Xfer} : Keeps s₀ (s.startXfer x) := h.putActive.pumpOrder

theorem Keeps.stopXfer {code : CloseCode} {x : Xfer} : Keeps s₀ (s.stopXfer code x) := by
  unfold State.stopXfer
  split
  · exact h.putActive.pumpOrder
  · exact h.putActive.pumpOrder
  · exact h.putActive
  all_goals exact h

theorem Keeps.noteClosed {x : Xfer} : Keeps s₀ (s.noteClosed x) := .raiseWith (h.switch (by rfl))

theorem Keeps.promote : Keeps s₀ s.promote := by
  unfold State.promote
  split
  · exact .cond (.startXfer (h.switch (by rfl))) (.noteClosed (h.switch (by rfl)))
  · exact h

theorem Keeps.closeActive {code : CloseCode} {x : Xfer} : Keeps s₀ (s.closeActive code x) :=
  h.putActive.noteClosed.promote

theorem Keeps.closeWaiting {code : CloseCode} {x : Xfer} : Keeps s₀ (s.closeWaiting code x) := .noteClosed (h.switch (by rfl))

theorem Keeps.endStop {x : Xfer} : Keeps s₀ (s.endStop x) := by
  unfold State.endStop
  split
  · exact h.putActive
  · exact h.closeActive
  all_goals exact h

theorem Keeps.takeMass {delta m : Nat} : Keeps s₀ (s.takeMass delta m) := by
  unfold State.takeMass
  split
  · exact h
  · next x _ =>
    have moved : Keeps s₀ ((s.putActive (some { x with moved := x.moved + m })).moveFuel x.source x.dest m) :=
      h.putActive.moveFuel
    dsimp only
    split
    · refine .cond (.endStop ?_) ?_
      all_goals
        split
        · exact moved.stopXfer
        · exact moved
    · split
      · exact moved.stopXfer
      · exact moved

theorem Keeps.takePump {q : Received} : Keeps s₀ (s.takePump q) := by
  unfold State.takePump
  split
  · exact h
  · dsimp only
    refine .cond ?_ h
    split
    · exact .cond h.stopXfer (.cond h.putActive h)
    · exact .cond h.stopXfer.putActive h
    · exact .cond h.stopXfer h.putActive
    · exact h.putActive
    · exact .cond h.closeActive h
    all_goals exact h

theorem Keeps.startExpires : Keeps s₀ s.startExpires := by
  unfold State.startExpires
  split
  · exact .cond h.stopXfer h
  · exact h

theorem Keeps.stopExpires : Keeps s₀ s.stopExpires := by
  unfold State.stopExpires
  split
  · exact .cond h.endStop h
  · exact h

theorem Keeps.pumpRepeats : Keeps s₀ s.pumpRepeats := by
  unfold State.pumpRepeats
  split
  · exact .cond h.putActive.pumpOrder h
  · exact h

theorem Keeps.loseHose {c : Fin 32} : Keeps s₀ (s.loseHose c) := by
  unfold State.loseHose
  split
  · exact .cond (.cond h.closeActive h.stopXfer) h
  · exact h

theorem Keeps.loseMeter {ch : Fin 8} : Keeps s₀ (s.loseMeter ch) := by
  unfold State.loseMeter
  split
  · exact .cond h.stopXfer h
  · exact h

/-! ## Meters (R133 to R140) -/

theorem Keeps.unassigned {ch : Fin 8} {m : Int} : Keeps s₀ (s.unassigned ch m) := h.putChan.raise
theorem Keeps.discardReading {ch : Fin 8} : Keeps s₀ (s.discardReading ch) := h.putChan.raise

theorem Keeps.engineReading {ch : Fin 8} {row : ChanRow} {rep : MeterReport} {ds dr : Nat} :
    Keeps s₀ (s.engineReading ch row rep ds dr) := by
  unfold State.engineReading
  dsimp only
  refine .cond h.discardReading ?_
  split
  · exact .cond h.putChan.charge h.putChan.unassigned
  · exact h.putChan.unassigned

theorem Keeps.transferReading {ch : Fin 8} {row : ChanRow} {rep : MeterReport} {ds : Nat} :
    Keeps s₀ (s.transferReading ch row rep ds) := by
  unfold State.transferReading
  dsimp only
  refine .cond h.discardReading ?_
  split
  · exact h.putChan.takeMass
  · exact h.putChan.unassigned

theorem Keeps.takeReading {q : Received} : Keeps s₀ (s.takeReading q) := by
  unfold State.takeReading
  split
  · exact h
  · split
    · exact h
    · dsimp only
      split
      · exact h.putChan.engineReading
      · exact h.putChan.transferReading
      · exact h.putChan

theorem Keeps.meterExpires {ch : Fin 8} : Keeps s₀ (s.meterExpires ch) := by
  unfold State.meterExpires
  split
  · exact h
  · exact .cond h.putChan.raise.loseMeter h

end
end Sys2Proof.Machine
end

section
/-!
PROOFS. The operations of the coupling supervisor and of demand intake keep the laws of the frame switch.
-/

namespace Sys2Proof.Machine

section
variable {s₀ s : State} (h : Keeps s₀ s)
include h

/-! ## Couplings (chapter 7) -/

theorem Keeps.postTension {b : Boat} : Keeps s₀ (s.postTension b) := h.postCeilings
theorem Keeps.retestReach {a : Fin 8} : Keeps s₀ (s.retestReach a) := h.driven (.retestReach a s)
theorem Keeps.retestReachOf {c : Fin 32} : Keeps s₀ (s.retestReachOf c) := h.driven (.retestReachOf c s)
theorem Keeps.winchOrder {c : Fin 32} {row : CoupRow} {act : WinchAction} : Keeps s₀ (s.winchOrder c row act) := h.order

theorem Keeps.postBorne {row : CoupRow} : Keeps s₀ (s.postBorne row) := by
  unfold State.postBorne
  split
  · exact h.postTension
  · exact h

theorem Keeps.retestAssist {was : Bool} {c : Fin 32} : Keeps s₀ (s.retestAssist was c) :=
  .cond (h.driven (.uncoupleAssist c s)) h

theorem Keeps.handOn {before : State} {c : Fin 32} {row : CoupRow} : Keeps s₀ (s.handOn before c row) :=
  .cond h (.cond h.postBorne.retestReachOf.retestAssist.loseHose h.postBorne.retestReachOf.retestAssist)

theorem Keeps.releaseCoup {c : Fin 32} : Keeps s₀ (s.releaseCoup c) := h.putCoup.raise

theorem Keeps.faultCoup {c : Fin 32} {row : CoupRow} {why : CoupCause} : Keeps s₀ (s.faultCoup c row why) :=
  .raise (.cond h.putCoup.winchOrder h.putCoup)

theorem Keeps.testOverload {c : Fin 32} {row : CoupRow} {tension : Nat} : Keeps s₀ (s.testOverload c row tension) :=
  .cond h.putCoup.raise h.putCoup

theorem Keeps.adoptCoup {c : Fin 32} {row : CoupRow} {rep : WinchReport} {arrival : Nat} :
    Keeps s₀ (s.adoptCoup c row rep arrival) :=
  .cond h.faultCoup (.cond h.putCoup (.cond h.putCoup.testOverload h.putCoup))

theorem Keeps.recoverCoup {c : Fin 32} {row : CoupRow} {rep : WinchReport} {arrival : Nat} :
    Keeps s₀ (s.recoverCoup c row rep arrival) := .cond h.putCoup.adoptCoup h

theorem Keeps.winchTests {c : Fin 32} {row : CoupRow} {rep : WinchReport} {arrival : Nat} :
    Keeps s₀ (s.winchTests c row rep arrival) := by
  unfold State.winchTests
  dsimp only
  split
  · exact h.adoptCoup
  · exact h.recoverCoup
  · exact .cond h h.putCoup
  · exact .cond h.releaseCoup h
  · exact .cond h.releaseCoup h
  · exact .cond h.releaseCoup h
  · exact .cond h.putCoup h
  · exact .cond h.releaseCoup h.putCoup.testOverload
  · exact .cond h.releaseCoup (.cond h.putCoup.winchOrder h)

theorem Keeps.winchActs {c : Fin 32} {row : CoupRow} {rep : WinchReport} {arrival : Nat} :
    Keeps s₀ (s.winchActs c row rep arrival) := by
  unfold State.winchActs
  dsimp only
  refine .cond ?_ h.putCoup.winchTests
  split
  · exact h.putCoup.putCoup
  all_goals exact h.putCoup.faultCoup

theorem Keeps.takeWinch {q : Received} : Keeps s₀ (s.takeWinch q) := by
  unfold State.takeWinch
  split
  · exact h
  · split
    · exact h
    · exact h.winchActs.handOn.postBorne

theorem Keeps.withCoup {c : Fin 32} {f : CoupRow → State} (g : ∀ row, Keeps s₀ (f row)) : Keeps s₀ (s.withCoup c f) := by
  unfold State.withCoup
  split
  · exact g _
  · exact h

theorem Keeps.coupSilent {c : Fin 32} : Keeps s₀ (s.coupSilent c) := h.withCoup fun _ => .cond h.faultCoup.handOn h

theorem Keeps.slackExpires {c : Fin 32} : Keeps s₀ (s.slackExpires c) :=
  h.withCoup fun _ => .cond h.putCoup.raise.handOn h

theorem Keeps.operationExpires {c : Fin 32} : Keeps s₀ (s.operationExpires c) := by
  refine h.withCoup fun row => ?_
  dsimp only
  split
  · exact .cond h.faultCoup h
  · exact h

theorem Keeps.operate {c : Fin 32} {row : CoupRow} {act : WinchAction} : Keeps s₀ (s.operate c row act) :=
  h.putCoup.winchOrder

theorem Keeps.coupRepeats {c : Fin 32} : Keeps s₀ (s.coupRepeats c) := by
  refine h.withCoup fun row => ?_
  dsimp only
  split
  · exact .cond h.operate h
  · exact h

theorem Keeps.ranged {o : CoupOrder} {q : OrderOf} {f : Fin 32 → CoupRow → State} (g : ∀ c row, Keeps s₀ (f c row)) :
    Keeps s₀ (s.ranged o q f) := by
  unfold State.ranged
  split
  · exact h.refuseOrder
  · split
    · exact h.refuseOrder
    · exact g _ _

theorem Keeps.makeUpOrder {q : OrderOf} : Keeps s₀ (s.makeUpOrder q) := by
  refine h.ranged fun c row => ?_
  dsimp only
  split
  case h_1 | h_2 | h_3 => exact h.putCoup.operate
  case h_4 | h_5 => exact h
  all_goals exact h.refuseOrder

theorem Keeps.easeOrder {q : OrderOf} : Keeps s₀ (s.easeOrder q) := by
  refine h.ranged fun c row => ?_
  dsimp only
  split
  case h_1 => exact h.putCoup.operate.handOn
  case h_2 | h_3 => exact h
  all_goals exact h.refuseOrder

theorem Keeps.lockOrder {q : OrderOf} : Keeps s₀ (s.lockOrder q) := h.ranged fun _ _ => h.putCoup.dueCoupling

theorem Keeps.lockAllOrder : Keeps s₀ s.lockAllOrder :=
  h.forAll fun _ s => (Keeps.refl s).withCoup fun _ => (Keeps.refl s).putCoup

theorem Keeps.usePermit {source : Nat} : Keeps s₀ (s.usePermit source) := .cond (h.switch (by rfl)) h

theorem Keeps.unlockOrder {q : OrderOf} : Keeps s₀ (s.unlockOrder q) :=
  h.usePermit.ranged fun _ _ =>
    .cond h.usePermit.refuseOrder (.cond h.usePermit.refuseOrder h.usePermit.putCoup.dueCoupling)

theorem Keeps.unlockAllOrder {q : OrderOf} : Keeps s₀ (s.unlockAllOrder q) := by
  refine .cond (h.usePermit.forAll fun c s => ?_) h.refuseOrder
  exact (Keeps.refl s).withCoup fun _ => .cond (.refl s) (Keeps.refl s).putCoup

theorem Keeps.permitOrder {q : OrderOf} : Keeps s₀ (s.permitOrder q) := h.switch (by rfl)

theorem Keeps.permitExpires : Keeps s₀ s.permitExpires := by
  unfold State.permitExpires
  split
  · exact .cond (h.switch (by rfl)) h
  · exact h

theorem Keeps.discardPending {b : Boat} {l : Fin 4} : Keeps s₀ (s.discardPending b l) := by
  unfold State.discardPending
  split
  · exact .cond (h.putLane.driven (.leaveGroup l _)) h
  · exact h

theorem Keeps.discardFor {row : CoupRow} : Keeps s₀ (s.discardFor row) := by
  unfold State.discardFor
  split
  · exact .cond (h.forAll fun _ s => (Keeps.refl s).discardPending) h
  · exact h

theorem Keeps.releaseOrder {q : OrderOf} : Keeps s₀ (s.releaseOrder q) := by
  refine h.usePermit.ranged fun c row => ?_
  dsimp only
  split
  · exact h.usePermit.refuseOrder
  · exact h.usePermit.putCoup.operate.discardFor

theorem Keeps.couplingOrder {o : CoupOrder} {q : OrderOf} : Keeps s₀ (s.couplingOrder o q) := by
  cases o
  case makeUp => exact h.makeUpOrder
  case ease => exact h.easeOrder
  case release => exact h.releaseOrder
  case lock => exact h.lockOrder
  case unlock => exact h.unlockOrder
  case lockAll => exact h.lockAllOrder
  case unlockAll => exact h.unlockAllOrder
  case permit => exact h.permitOrder

theorem Keeps.abandonOperation {c : Fin 32} : Keeps s₀ (s.abandonOperation c) := .cond h.putCoup h

/-! ## Demand intake (chapter 3) -/

theorem Keeps.putJob {j : Job} {r : JobRec} : Keeps s₀ (s.putJob j r) := by
  cases j
  · exact .cond (h.switch (by rfl)) (.dueCommand (h.switch (by rfl)))
  · exact .cond (h.switch (by rfl)) (.dueCommand (h.switch (by rfl)))

theorem Keeps.degrade {j : Job} : Keeps s₀ (s.degrade j) := by
  cases j
  · exact h.putJob.postCeilings.raise
  · exact h.putJob.setHelm.raise

theorem Keeps.beginLoss {j : Job} {since : Nat} : Keeps s₀ (s.beginLoss j since) := .cond h.putJob.degrade h.putJob

theorem Keeps.lift {j : Job} : Keeps s₀ (s.lift j) := by
  unfold State.lift
  dsimp only
  split
  · exact h.putJob.postCeilings
  · exact h.putJob

theorem Keeps.hear {j : Job} {arrival : Nat} : Keeps s₀ (s.hear j arrival) := h.putJob.lift
theorem Keeps.timeoutExpires {j : Job} : Keeps s₀ (s.timeoutExpires j) := .cond h.beginLoss h
theorem Keeps.holdExpires {j : Job} : Keeps s₀ (s.holdExpires j) := .cond h.degrade h

theorem Keeps.takeDemand {k : MsgKind} {j : Job} {pass : State → State} {q : Received}
    (g : ∀ t, Keeps s₀ t → Keeps s₀ (pass t)) : Keeps s₀ (s.takeDemand k j pass q) := by
  unfold State.takeDemand
  dsimp only
  split
  · exact h.refuseDemand
  · split
    · exact h
    · exact .cond h.countRefusal.refuseDemand
        (.cond h.countRefusal.refuseDemand (.cond h.hear.refuseDemand (g _ h.hear)))

theorem Keeps.noteTake {source : Nat} {j : Job} {res : TakeResult} : Keeps s₀ (s.noteTake source j res) :=
  h.switch (by rfl)

theorem Keeps.acceptTake {i : Fin 4} {j : Job} {arrival : Nat} : Keeps s₀ (s.acceptTake i j arrival) := h.putJob.lift

theorem Keeps.takeCommand {q : Received} : Keeps s₀ (s.takeCommand q) := by
  unfold State.takeCommand
  dsimp only
  split
  · exact h.noteTake.refuseDemand
  · split
    · exact h
    · exact .cond h.countRefusal.noteTake.refuseDemand (.cond h.noteTake.acceptTake
        (.cond h.noteTake.acceptTake.raise h.countRefusal.noteTake.refuseDemand))

theorem Keeps.releaseCommand {q : Received} : Keeps s₀ (s.releaseCommand q) := by
  unfold State.releaseCommand
  dsimp only
  split
  · exact h
  · exact .cond (.cond h.putJob.dueCommand.beginLoss h.putJob.dueCommand) h.countRefusal

theorem Keeps.takeOrder {pass : OrderOf → State → State} {q : Received} (g : Keeps s₀ (pass (orderOf q) s)) :
    Keeps s₀ (s.takeOrder pass q) := by
  unfold State.takeOrder
  dsimp only
  split
  · exact h.refuseDemand
  · split
    · exact h
    · exact .cond g h.countRefusal.refuseDemand

/-! ## Periods -/

theorem Keeps.laneSummaryDue {l : Fin 4} : Keeps s₀ (s.laneSummaryDue l) := .cond h.dueLane h
theorem Keeps.helmSummaryDue : Keeps s₀ s.helmSummaryDue := .cond h.dueHelm h
theorem Keeps.coupSummaryDue {c : Fin 32} : Keeps s₀ (s.coupSummaryDue c) := .cond h.dueCoupling h
theorem Keeps.commandStateDue : Keeps s₀ s.commandStateDue := .cond h.dueCommand h

end
end Sys2Proof.Machine
end

section
/-!
PROOFS. The route table: the bytes of an entry (11.6), its place in key order, and LOAD_ROW and CLEAR_TABLE of it (R19, R20).
-/

namespace Sys2Proof.Machine

/-! ## The route table in key order (R19) -/

/-- The entries of the table after an entry is put in its place, whatever the order of the table. -/
theorem mem_insertRoute_of {e x : RouteEntry} {es : List RouteEntry} (h : x ∈ insertRoute e es) : x = e ∨ x ∈ es := by
  induction es with
  | nil => exact .inl (List.mem_singleton.mp h)
  | cons y es ih =>
    simp only [insertRoute] at h
    split at h
    · exact List.mem_cons.mp h
    · split at h
      · exact (List.mem_cons.mp h).imp_right fun h => List.mem_cons_of_mem _ h
      · rcases List.mem_cons.mp h with rfl | h
        · exact .inr List.mem_cons_self
        · exact (ih h).imp_right fun h => List.mem_cons_of_mem _ h

/-- R19: a table in key order stays so. -/
theorem insertRoute_pairwise {e : RouteEntry} {es : List RouteEntry} (h : es.Pairwise (fun a b => a.key < b.key)) :
    (insertRoute e es).Pairwise (fun a b => a.key < b.key) := by
  induction es with
  | nil => exact List.pairwise_singleton _ e
  | cons y es ih =>
    obtain ⟨hy, hes⟩ := List.pairwise_cons.mp h
    simp only [insertRoute]
    split
    · next hlt =>
      refine List.pairwise_cons.mpr ⟨List.forall_mem_cons.mpr ⟨hlt, fun x hx => ?_⟩, h⟩
      exact hlt.trans (hy x hx)
    · split
      · next heq => exact List.pairwise_cons.mpr ⟨fun x hx => heq.trans_lt (hy x hx), hes⟩
      · next hge hne =>
        refine List.pairwise_cons.mpr ⟨fun x hx => ?_, ih hes⟩
        rcases mem_insertRoute_of hx with rfl | hx
        · omega
        · exact hy x hx

/-- The entries of a table in key order after an entry is put in its place: in place of the one of its key, if any. -/
theorem mem_insertRoute {e : RouteEntry} {es : List RouteEntry} (h : es.Pairwise (fun a b => a.key < b.key))
    (x : RouteEntry) : x ∈ insertRoute e es ↔ x = e ∨ (x ∈ es ∧ x.key ≠ e.key) := by
  induction es with
  | nil => simp [insertRoute]
  | cons y es ih =>
    obtain ⟨hy, hes⟩ := List.pairwise_cons.mp h
    simp only [insertRoute]
    split
    · next hlt =>
      have hother : ∀ z ∈ y :: es, z.key ≠ e.key := by
        rw [List.forall_mem_cons]
        exact ⟨by omega, fun z hz => by have := hy z hz; omega⟩
      rw [List.mem_cons]
      exact or_congr_right ⟨fun hx => ⟨hx, hother x hx⟩, And.left⟩
    · split
      · next heq =>
        rw [List.mem_cons, List.mem_cons]
        refine or_congr_right ⟨fun hx => ⟨.inr hx, by have := hy x hx; omega⟩, fun ⟨hx, hne⟩ => ?_⟩
        exact hx.resolve_left (fun hxy => hne (hxy ▸ heq.symm))
      · next hge hne =>
        rw [List.mem_cons, List.mem_cons, ih hes]
        constructor
        · rintro (rfl | rfl | ⟨hx, hk⟩)
          · exact .inr ⟨.inl rfl, fun hk => hne hk.symm⟩
          · exact .inl rfl
          · exact .inr ⟨.inr hx, hk⟩
        · rintro (rfl | ⟨rfl | hx, hk⟩)
          · exact .inr (.inl rfl)
          · exact .inl rfl
          · exact .inr (.inr ⟨hx, hk⟩)

theorem insertRoute_length_le (e : RouteEntry) (es : List RouteEntry) : (insertRoute e es).length ≤ es.length + 1 := by
  induction es with
  | nil => exact Nat.le_refl 1
  | cons y es ih =>
    simp only [insertRoute]
    split
    · exact Nat.le_refl _
    · split
      · exact Nat.le_succ _
      · exact Nat.succ_le_succ ih

/-- An entry that replaces the one of its key makes the table no longer. -/
theorem insertRoute_length_of_mem {e y : RouteEntry} {es : List RouteEntry} (h : es.Pairwise (fun a b => a.key < b.key))
    (hy : y ∈ es) (hkey : y.key = e.key) : (insertRoute e es).length = es.length := by
  induction es with
  | nil => cases hy
  | cons z es ih =>
    obtain ⟨hz, hes⟩ := List.pairwise_cons.mp h
    simp only [insertRoute]
    rcases List.mem_cons.mp hy with rfl | hy
    · rw [if_neg (by omega), if_pos hkey.symm, List.length_cons, List.length_cons]
    · have := hz y hy
      rw [if_neg (by omega), if_neg (by omega), List.length_cons, ih hes hy, List.length_cons]

theorem RouteEntry.sameKey_iff {a b : RouteEntry} : a.sameKey b = true ↔ a.kind = b.kind ∧ a.source = b.source := by
  simp [RouteEntry.sameKey]

theorem RouteEntry.key_of_sameKey {a b : RouteEntry} (h : a.sameKey b = true) : a.key = b.key := by
  obtain ⟨hkind, hsource⟩ := RouteEntry.sameKey_iff.mp h
  rw [RouteEntry.key, RouteEntry.key, hkind, hsource]

theorem nodeOk_iff {own n : Nat} : nodeOk own n = true ↔ NodeOk own n := by
  simp [nodeOk, NodeOk, and_assoc]

/-- A field that one code leaves absent, and a test of the value it has otherwise. -/
theorem absentAs_all_and {code v : Nat} {ok : Nat → Bool} {x : Option Nat} :
    ((absentAs code v).all ok = true ∧ absentAs code v = x) ↔
      (x = none ∧ v = code ∨ x = some v ∧ v ≠ code ∧ ok v = true) := by
  unfold absentAs
  split
  · next h => simp [h, eq_comm (a := x)]
  · next h => simp [h, eq_comm (a := x), and_comm]

theorem within_iff {lo hi v : Nat} : within lo hi v = true ↔ lo ≤ v ∧ v ≤ hi := by
  simp [within]

/-- A bit that alone may be set. -/
theorem bitOf_zero_of_lt {m : List Byte} {k : Nat} (h : u8 m k < 2) : bitOf m k 0 = decide (u8 m k = 1) := by
  have hbit : bitOf m k 0 = (u8 m k).testBit 0 := rfl
  rw [hbit, Nat.testBit_zero, Nat.mod_eq_of_lt h]

/-- The tests and the fields of a route entry (R19, 11.6). -/
theorem routeEntryOf_eq (own : Nat) (m : List Byte) : routeEntryOf own m =
    if (absentAs 255 (u8 m 4)).all (nodeOk own)
        && (absentAs 255 (u8 m 7)).all (fun n => decide (n ≤ 126) && decide (n ≠ own))
        && (absentAs 0 (u16 m 8)).all (within 10 10000) && decide (u8 m 5 < 8) && decide (u8 m 6 < 2)
    then some
      { kind := u8 m 3, source := absentAs 255 (u8 m 4)
        forward := { B := bitOf m 5 0, M := bitOf m 5 1, T := bitOf m 5 2 }
        deliver := bitOf m 6 0, rewrite := absentAs 255 (u8 m 7), interval := absentAs 0 (u16 m 8)
        hits := 0, lastForward := none }
    else none := by
  unfold routeEntryOf
  cases absentAs 255 (u8 m 4) <;> cases absentAs 255 (u8 m 7) <;> cases absentAs 0 (u16 m 8) <;> rfl

/-- Section 11.6: which bytes are a route entry, and which. -/
theorem routeEntryOf_iff {own : Nat} {m : List Byte} {e : RouteEntry} : routeEntryOf own m = some e ↔
    e.kind = u8 m 3
    ∧ (e.source = none ∧ u8 m 4 = 255 ∨ e.source = some (u8 m 4) ∧ NodeOk own (u8 m 4))
    ∧ u8 m 5 < 8 ∧ e.forward.B = (u8 m 5).testBit 0 ∧ e.forward.M = (u8 m 5).testBit 1
    ∧ e.forward.T = (u8 m 5).testBit 2
    ∧ u8 m 6 < 2 ∧ e.deliver = decide (u8 m 6 = 1)
    ∧ (e.rewrite = none ∧ u8 m 7 = 255 ∨ e.rewrite = some (u8 m 7) ∧ u8 m 7 ≤ 126 ∧ u8 m 7 ≠ own)
    ∧ (e.interval = none ∧ u16 m 8 = 0 ∨ e.interval = some (u16 m 8) ∧ 10 ≤ u16 m 8 ∧ u16 m 8 ≤ 10000)
    ∧ e.hits = 0 ∧ e.lastForward = none := by
  have hsource := absentAs_all_and (code := 255) (v := u8 m 4) (ok := nodeOk own) (x := e.source)
  have hrewrite := absentAs_all_and (code := 255) (v := u8 m 7) (x := e.rewrite)
    (ok := fun n => decide (n ≤ 126) && decide (n ≠ own))
  have hinterval := absentAs_all_and (code := 0) (v := u16 m 8) (ok := within 10 10000) (x := e.interval)
  obtain ⟨kind, source, ⟨B, M, T⟩, deliver, rewrite, interval, hits, lastForward⟩ := e
  rw [nodeOk_iff] at hsource
  rw [within_iff] at hinterval
  have hnode : NodeOk own (u8 m 4) → u8 m 4 ≠ 255 := fun ⟨_, h, _⟩ => by omega
  rw [routeEntryOf_eq]
  simp only [Option.ite_none_right_eq_some, Option.some.injEq, RouteEntry.mk.injEq, PortSet.mk.injEq, Bool.and_eq_true,
    decide_eq_true_eq] at hsource hrewrite hinterval ⊢
  constructor
  · rintro ⟨⟨⟨⟨⟨h4, h7⟩, h8⟩, h5⟩, h6⟩, rfl, rfl, ⟨rfl, rfl, rfl⟩, rfl, rfl, rfl, rfl, rfl⟩
    exact ⟨rfl, (hsource.mp ⟨h4, rfl⟩).imp_right fun h => ⟨h.1, h.2.2⟩, h5, rfl, rfl, rfl, h6, bitOf_zero_of_lt h6,
      (hrewrite.mp ⟨h7, rfl⟩).imp_right fun h => ⟨h.1, h.2.2⟩, (hinterval.mp ⟨h8, rfl⟩).imp_right fun h => ⟨h.1, h.2.2⟩,
      rfl, rfl⟩
  · rintro ⟨rfl, h4, h5, rfl, rfl, rfl, h6, rfl, h7, h8, rfl, rfl⟩
    obtain ⟨ok4, eq4⟩ := hsource.mpr (h4.imp_right fun h => ⟨h.1, hnode h.2, h.2⟩)
    obtain ⟨ok7, eq7⟩ := hrewrite.mpr (h7.imp_right fun h => ⟨h.1, by omega, h.2⟩)
    obtain ⟨ok8, eq8⟩ := hinterval.mpr (h8.imp_right fun h => ⟨h.1, by omega, h.2⟩)
    exact ⟨⟨⟨⟨⟨ok4, ok7⟩, ok8⟩, h5⟩, h6⟩, rfl, eq4, ⟨rfl, rfl, rfl⟩, bitOf_zero_of_lt h6, eq7, eq8, rfl, rfl⟩

/-- R19: the source of a route entry is a node or ANY. -/
theorem routeEntryOf_source {own n : Nat} {m : List Byte} {e : RouteEntry} (h : routeEntryOf own m = some e)
    (hn : e.source = some n) : 1 ≤ n ∧ n ≤ 126 := by
  obtain ⟨-, ⟨hnone, -⟩ | ⟨hsome, h1, h126, -⟩, -⟩ := routeEntryOf_iff.mp h
  · cases hn.symm.trans hnone
  · obtain rfl := Option.some.inj (hn.symm.trans hsome)
    exact ⟨h1, h126⟩

/-- A table whose entries keep their keys and sources keeps its law. -/
theorem RouteLaw.map {s : State} (h : RouteLaw s) (f : RouteEntry → RouteEntry)
    (hf : ∀ e, (f e).key = e.key ∧ (f e).source = e.source) : RouteLaw (s.setRoutes (s.switch.routes.map f)) := by
  obtain ⟨horder, hlength, hsource⟩ := h
  refine ⟨List.pairwise_map.mpr (horder.imp fun {a b} hab => ?_), ?_, List.forall_mem_map.mpr fun e he n hn => ?_⟩
  · rwa [(hf a).1, (hf b).1]
  · rwa [State.setRoutes, List.length_map]
  · exact hsource e he n ((hf e).2 ▸ hn)

theorem State.port_setRoutes (es : List RouteEntry) (s : State) (p : Port) : (s.setRoutes es).port p = s.port p := by
  cases p <;> rfl

theorem Keeps.setRoutes {s : State} {es : List RouteEntry} (h : RouteLaw s → RouteLaw (s.setRoutes es)) :
    Keeps s (s.setRoutes es) := ⟨fun hs p => by rw [State.port_setRoutes]; exact hs p, h⟩

/-- LOAD_ROW of the route table (R19). -/
theorem Keeps.loadRoute (s : State) (m : List Byte) : Keeps s (s.loadRoute m).state := by
  unfold State.loadRoute
  split
  · exact .refl s
  · next e he =>
    split
    · next hroom =>
      refine .setRoutes fun ⟨horder, hlength, hsource⟩ => ⟨insertRoute_pairwise horder, ?_, fun x hx n hn => ?_⟩
      · rw [Bool.or_eq_true, List.any_eq_true, decide_eq_true_eq] at hroom
        rcases hroom with ⟨y, hy, hkey⟩ | hroom
        · exact (insertRoute_length_of_mem horder hy (RouteEntry.key_of_sameKey hkey).symm).trans_le hlength
        · exact (insertRoute_length_le e _).trans hroom
      · rcases mem_insertRoute_of hx with rfl | hx
        · exact routeEntryOf_source he hn
        · exact hsource x hx n hn
    · exact .refl s

/-- CLEAR_TABLE of the route table (R20). -/
theorem Keeps.clearRoutes (s : State) (m : List Byte) : Keeps s (s.clearRoutes m).state :=
  .setRoutes fun _ => ⟨.nil, Nat.zero_le _, nofun⟩

end Sys2Proof.Machine
end

section
/-!
PROOFS. The requests and the command reset keep the laws of the frame switch.
-/

namespace Sys2Proof.Machine

/-! ## Requests (chapter 10) -/

theorem Keeps.answer {s₀ : State} {a b : Answer} {p : Prop} [Decidable p] (h : Keeps s₀ a.state) (g : Keeps s₀ b.state) :
    Keeps s₀ (if p then a else b).state := by
  split
  · exact h
  · exact g

/-- R154 to R156: the walk of RECONCILE. -/
theorem Keeps.walk {s₀ s : State} (h : Keeps s₀ s) (tolerance : Nat) (ks : List (Fin 16)) (n : Nat) :
    Keeps s₀ (State.walk tolerance ks n s).1 := by
  induction ks generalizing n s with
  | nil => exact h
  | cons k ks ih =>
    unfold State.walk
    split
    · exact ih h n
    · split
      · exact ih h n
      · split
        · exact ih h.adjustTank.setSounding (n + 1)
        · exact h

section
variable {s₀ s : State} (h : Keeps s₀ s) (m : List Byte)
include h

theorem Keeps.done : Keeps s₀ s.done.state := h

theorem Keeps.identify : Keeps s₀ (s.identify m).state := h

theorem Keeps.readCounters : Keeps s₀ (s.readCounters m).state := by
  unfold State.readCounters
  split
  · exact h
  · exact h

theorem Keeps.readStatus : Keeps s₀ (s.readStatus m).state := by
  unfold State.readStatus
  dsimp only
  split
  all_goals exact h

theorem Keeps.readRow : Keeps s₀ (s.readRow m).state := by
  unfold State.readRow
  split
  case h_1 =>
    unfold State.readRoute
    split
    all_goals exact h
  case h_2 =>
    unfold State.readStation
    split
    · split
      all_goals exact h
    · exact .answer h h
  case h_3 =>
    unfold State.readLane
    split
    · exact h
    · split
      all_goals exact h
  case h_4 =>
    unfold State.readGroup
    split
    · exact h
    · split
      all_goals exact h
  case h_5 =>
    unfold State.readActuator
    split
    · exact h
    · split
      all_goals exact h
  case h_6 | h_7 =>
    unfold State.readBank
    dsimp only
    split
    · exact h
    · split
      all_goals exact h
  case h_8 =>
    unfold State.readCoupling
    split
    · exact h
    · split
      all_goals exact h
  case h_9 =>
    unfold State.readTankRow
    split
    all_goals exact h
  case h_10 =>
    unfold State.readChannel
    split
    · exact h
    · split
      all_goals exact h

theorem Keeps.loadStation : Keeps s₀ (s.loadStation m).state := by
  unfold State.loadStation
  split
  · exact .answer h (.answer h (h.switch (by rfl)))
  · exact h

theorem Keeps.loadTiming : Keeps s₀ (s.loadTiming m).state := by
  have loaded : Keeps s₀ { s with intake := { s.intake with demandTimeout := u16 m 3, holdTime := u16 m 5 } } :=
    h.switch (by rfl)
  exact .answer loaded.timeoutExpires.timeoutExpires.holdExpires.holdExpires.done h

theorem Keeps.loadLane : Keeps s₀ (s.loadLane m).state := by
  unfold State.loadLane
  split
  · next l row _ _ =>
    have loaded : Keeps s₀ { s with lanes := { s.lanes with rows := s.lanes.rows.set l (some row) } } :=
      h.switch (by rfl)
    exact .answer h (.answer h (loaded.putLane.dueLane.driven (.evaluateLane l _)).putCeilings.done)
  · exact h

theorem Keeps.loadGroup : Keeps s₀ (s.loadGroup m).state := by
  unfold State.loadGroup
  split
  · exact .done (.groupHold (h.switch (by rfl)))
  · exact h

theorem Keeps.loadActuator : Keeps s₀ (s.loadActuator m).state := by
  unfold State.loadActuator
  split
  · next a row _ _ =>
    have loaded : Keeps s₀ { s with steering := { s.steering with rows := s.steering.rows.set a (some row) } } :=
      h.switch (by rfl)
    exact .answer h (.answer h (.done (.cond loaded.putAct.dueHelm.startActTimer loaded.putAct.dueHelm)))
  · exact h

theorem Keeps.loadBank : Keeps s₀ (s.loadBank m).state := by
  unfold State.loadBank
  dsimp only
  refine .answer h ?_
  split
  · exact h.switch (by rfl)
  · exact h

theorem Keeps.loadCoupling : Keeps s₀ (s.loadCoupling m).state := by
  unfold State.loadCoupling
  split
  · next c row _ _ =>
    have loaded : Keeps s₀ { s with couplings := { s.couplings with rows := s.couplings.rows.set c (some row) } } :=
      h.switch (by rfl)
    exact .answer h (.answer h
      loaded.putCoup.dueCoupling.postTension.postTension.retestReachOf.retestAssist.done)
  · exact h

theorem Keeps.loadTank : Keeps s₀ (s.loadTank m).state := by
  unfold State.loadTank
  split
  · next k row _ _ =>
    have loaded : Keeps s₀ { s with fuel := { s.fuel with tanks := s.fuel.tanks.set k (some row) } } :=
      h.switch (by rfl)
    exact .answer h (.done (.cond loaded.clearReserve loaded.evalReserve))
  · exact h

theorem Keeps.loadChannel : Keeps s₀ (s.loadChannel m).state := by
  unfold State.loadChannel
  split
  · exact .answer h (.answer h (.done (.putChan (h.switch (by rfl)))))
  · exact h

theorem Keeps.clearStations : Keeps s₀ (s.clearStations m).state := .answer h (h.switch (by rfl))

theorem Keeps.clearLanes : Keeps s₀ (s.clearLanes m).state := by
  have emptied : Keeps s₀ { s with lanes := { s.lanes with
      rows := Tab.fill 4 none, ceils := Tab.fill 4 Ceilings.empty } } := h.switch (by rfl)
  exact .answer h (.done (.evaluateAll (emptied.forAll fun l s => (Keeps.refl s).putLane)))

theorem Keeps.clearGroups : Keeps s₀ (s.clearGroups m).state := .answer h (h.switch (by rfl))
theorem Keeps.clearActuators : Keeps s₀ (s.clearActuators m).state := .answer h (.done (.dueHelm (h.switch (by rfl))))
theorem Keeps.clearBank : Keeps s₀ (s.clearBank m).state := .answer h (h.switch (by rfl))

theorem Keeps.clearCouplings : Keeps s₀ (s.clearCouplings m).state := by
  have emptied : Keeps s₀ { s with couplings := { s.couplings with
      rows := Tab.fill 32 none, recs := s.couplings.recs.map fun r => CoupRec.reset r.summaryAt } } := h.switch (by rfl)
  exact .answer h (.done (emptied.postTension.postTension.forAll fun a s => (Keeps.refl s).retestReach))

theorem Keeps.clearTanks : Keeps s₀ (s.clearTanks m).state := .answer h (.done (.postCeilings (h.switch (by rfl))))
theorem Keeps.clearChannels : Keeps s₀ (s.clearChannels m).state := .answer h (h.switch (by rfl))
theorem Keeps.closeBank : Keeps s₀ (s.closeBank m).state := .answer (h.switch (by rfl)) (h.switch (by rfl))

theorem Keeps.swapBank : Keeps s₀ (s.swapBank m).state := by
  have swapped : Keeps s₀ { s with steering := { s.steering with
      active := s.steering.active.other, complete := false } } := h.switch (by rfl)
  exact .answer swapped.evaluateAll.raise.dueHelm.done h

theorem Keeps.startJobs : Keeps s₀ s.startJobs := h.forAll fun _ s => (Keeps.refl s).startActTimer

theorem Keeps.idleJobs : Keeps s₀ s.idleJobs :=
  ((h.forAll fun l s => .of_driven (.unsyncLane l s)).forAll fun g s => .of_driven (.putGroup g _ s)).forAll
    fun _ s => (Keeps.refl s).unsyncAct

theorem Keeps.engageMode : Keeps s₀ (s.engageMode m).state := by
  unfold State.engageMode
  split
  · exact h
  · exact h
  · exact .answer h h.setMode.startJobs.done

theorem Keeps.layUp : Keeps s₀ (s.layUp m).state := .answer h h.setMode.idleJobs.done
theorem Keeps.wake : Keeps s₀ (s.wake m).state := .answer h.setMode.startJobs.done h

theorem Keeps.disengage : Keeps s₀ (s.disengage m).state :=
  .answer h (.answer h (.done (h.setMode.idleJobs.forAll fun _ s => (Keeps.refl s).abandonOperation)))

theorem Keeps.setCap : Keeps s₀ (s.setCap m).state := by
  unfold State.setCap
  split
  · exact h
  · split
    · exact h
    · dsimp only
      split
      · exact h.putCeilings.done
      · exact .answer h.putCeilings.done h

theorem Keeps.openTank : Keeps s₀ (s.openTank m).state := by
  unfold State.openTank
  split
  · exact h
  · exact .answer h (.answer h h.putAcct.freshReserve.done)

theorem Keeps.adjustTankRequest : Keeps s₀ (s.adjustTankRequest m).state := by
  unfold State.adjustTankRequest
  split
  · exact h
  · exact .answer h (.answer h h.adjustTank.done)

theorem Keeps.readTank : Keeps s₀ (s.readTank m).state := by
  unfold State.readTank
  split
  · exact h
  · exact h

theorem Keeps.acceptXfer {x : Xfer} : Keeps s₀ (s.acceptXfer x) := by
  unfold State.acceptXfer
  dsimp only
  split
  · exact .startXfer (h.switch (by rfl))
  · exact h.switch (by rfl)

theorem Keeps.transfer : Keeps s₀ (s.transfer m).state := by
  unfold State.transfer
  refine .answer h ?_
  split
  · refine .answer h (.answer h ?_)
    split
    · exact h
    · exact h.acceptXfer
  · exact h

theorem Keeps.cancelTransfer : Keeps s₀ (s.cancelTransfer m).state := by
  unfold State.cancelTransfer
  split
  · exact .done (.cond h.closeActive h.stopXfer)
  · exact h.closeWaiting.done
  · exact h

theorem Keeps.suspendTransfer : Keeps s₀ (s.suspendTransfer m).state := by
  unfold State.suspendTransfer
  split
  · exact .answer (.done h.putActive.pumpOrder) h
  · exact h
  · exact h

theorem Keeps.resumeTransfer : Keeps s₀ (s.resumeTransfer m).state := by
  unfold State.resumeTransfer
  split
  · exact .answer h (.answer h.startXfer.done h)
  · exact h
  · exact h

theorem Keeps.readTransfer : Keeps s₀ (s.readTransfer m).state := h

theorem Keeps.sounding : Keeps s₀ (s.sounding m).state := by
  unfold State.sounding
  split
  · exact h
  · exact .answer h h.setSounding.done

theorem Keeps.reconcile : Keeps s₀ (s.reconcile m).state := by
  have walked := h.walk (u32 m 1) (indices 16) 0
  unfold State.reconcile
  refine .answer h ?_
  split
  · next hwalk => rwa [hwalk] at walked
  · next hwalk =>
    rw [hwalk] at walked
    exact walked.raise

theorem Keeps.readEvents : Keeps s₀ (s.readEvents m).state := .answer h h

theorem Keeps.mapFlags {f : Fin 27 → EventFlag → EventFlag} : Keeps s₀ (s.mapFlags f) := h.forAll fun _ _ => .of_switch rfl

theorem Keeps.clearEvents : Keeps s₀ (s.clearEvents m).state := h.mapFlags.done
theorem Keeps.setMask : Keeps s₀ (s.setMask m).state := h.mapFlags.done
end

/-! ## The command reset (R166) -/

theorem Keeps.commandState0 (s : State) : Keeps s s.commandState0 where
  queues _ p := by cases p <;> exact ⟨Nat.zero_le _, Nat.zero_le _⟩
  routes h := RouteLaw.congr (s := s.setRoutes (s.switch.routes.map RouteEntry.rearm)) rfl (h.map _ fun _ => ⟨rfl, rfl⟩)

theorem Keeps.commandReset {s₀ s : State} (h : Keeps s₀ s) : Keeps s₀ s.commandReset := by
  have stopped : Keeps s₀ (s.commandState0.resetStop s.transfers.active) := by
    unfold State.resetStop
    split
    · exact .originate (h.trans (.commandState0 s))
    · exact h.trans (.commandState0 s)
  exact stopped.raise.forAll fun _ s => (Keeps.refl s).freshReserve

theorem Keeps.resetRequest {s₀ s : State} (h : Keeps s₀ s) (source : Nat) : Keeps s₀ (s.resetRequest source).state :=
  .answer h.commandReset.done h

/-- The owner of a request. -/
theorem Keeps.owner (source : Nat) (m : List Byte) (s : State) (r : Req) : Keeps s (r.owner source m s).state := by
  have h := Keeps.refl s
  cases r
  case unknown => exact h
  case badTable => exact h
  case identify => exact h.identify m
  case readStatus => exact h.readStatus m
  case readRow => exact h.readRow m
  case loadRoute => exact .loadRoute s m
  case loadStation => exact h.loadStation m
  case loadTiming => exact h.loadTiming m
  case loadLane => exact h.loadLane m
  case loadGroup => exact h.loadGroup m
  case loadActuator => exact h.loadActuator m
  case loadBank => exact h.loadBank m
  case loadCoupling => exact h.loadCoupling m
  case loadTank => exact h.loadTank m
  case loadChannel => exact h.loadChannel m
  case clearRoutes => exact .clearRoutes s m
  case clearStations => exact h.clearStations m
  case clearLanes => exact h.clearLanes m
  case clearGroups => exact h.clearGroups m
  case clearActuators => exact h.clearActuators m
  case clearBank => exact h.clearBank m
  case clearCouplings => exact h.clearCouplings m
  case clearTanks => exact h.clearTanks m
  case clearChannels => exact h.clearChannels m
  case closeBank => exact h.closeBank m
  case swapBank => exact h.swapBank m
  case engage => exact h.engageMode m
  case disengage => exact h.disengage m
  case layUp => exact h.layUp m
  case wake => exact h.wake m
  case setCap => exact h.setCap m
  case openTank => exact h.openTank m
  case adjustTank => exact h.adjustTankRequest m
  case readTank => exact h.readTank m
  case transfer => exact h.transfer m
  case cancelTransfer => exact h.cancelTransfer m
  case suspendTransfer => exact h.suspendTransfer m
  case resumeTransfer => exact h.resumeTransfer m
  case readTransfer => exact h.readTransfer m
  case sounding => exact h.sounding m
  case reconcile => exact h.reconcile m
  case readEvents => exact h.readEvents m
  case clearEvents => exact h.clearEvents m
  case setMask => exact h.setMask m
  case readCounters => exact h.readCounters m
  case resetArm => exact h
  case reset => exact h.resetRequest source
end Sys2Proof.Machine
end

section
/-!
PROOFS. Reassembly, the frame switch and the resets keep the laws of the frame switch; the shapes of the rows of the table.
-/

namespace Sys2Proof.Machine

section
variable {s₀ s : State} (h : Keeps s₀ s)
include h

/-! ## Management requests (R10 to R13, R159) -/

theorem Keeps.reply {target : Nat} {code : Byte} {r : Result} {body : List Byte} :
    Keeps s₀ (s.reply target code r body) := h.originateAll

theorem Keeps.armAfter {source : Nat} {r : Req} : Keeps s₀ (s.armAfter source r) := by
  unfold State.armAfter
  split
  · exact h.setArming
  · exact h.setArming

theorem Keeps.execute {r : Req} {owner : State → Answer} {source : Nat} {m : List Byte}
    (g : Keeps s₀ (owner s).state) : Keeps s₀ (s.execute r owner source m) := by
  unfold State.execute State.conclude
  split
  · exact h.armAfter.reply
  · exact g.armAfter.reply

theorem Keeps.serve {source : Nat} {m : List Byte} : Keeps s₀ (s.serve source m) :=
  h.execute (h.trans (.owner source m s _))

theorem Keeps.countMalformed {p : Port} : Keeps s₀ (s.countMalformed p) := h.trans (.setPort (by exact id) (by exact id))

theorem Keeps.dropSlot {source : Nat} : Keeps s₀ (s.dropSlot source) := by
  unfold State.dropSlot
  split
  · exact h.setSlot
  · exact h

theorem Keeps.partError {source : Nat} {code : Byte} : Keeps s₀ (s.partError source code) := h.reply.raise

theorem Keeps.openSlot {source : Nat} {data : List Byte} : Keeps s₀ (s.openSlot source data) := by
  unfold State.openSlot
  split
  · exact h.setSlot
  · split
    · exact h.setSlot
    · exact h.reply

theorem Keeps.firstPart {source : Nat} {last : Bool} {data : List Byte} : Keeps s₀ (s.firstPart source last data).1 := by
  unfold State.firstPart
  split
  · split
    · exact h.countMalformed (p := .B)
    · exact h.dropSlot
  · split
    · exact h.dropSlot.countMalformed (p := .B)
    · split
      · exact h.dropSlot.partError
      · exact h.openSlot

theorem Keeps.laterPart {source k : Nat} {last : Bool} {data : List Byte} :
    Keeps s₀ (s.laterPart source k last data).1 := by
  unfold State.laterPart
  split
  · exact h.countMalformed (p := .B)
  · split
    · exact h
    · split
      · exact h.setSlot.partError
      · split
        · split
          · exact h.setSlot.partError
          · exact h.setSlot
        · split
          · exact h.setSlot.partError
          · exact h.setSlot

theorem Keeps.takePart {q : Received} : Keeps s₀ (s.takePart q).1 := by
  unfold State.takePart
  dsimp only
  split
  · exact h.firstPart
  · exact h.laterPart

theorem Keeps.takes {q : Received} {t : State} {m : Option (List Byte)} (g : s.takePart q = (t, m)) : Keeps s₀ t := by
  have taken := h.takePart (q := q)
  rwa [g] at taken

theorem Keeps.requestPart {q : Received} : Keeps s₀ (s.requestPart q) := by
  unfold State.requestPart
  split
  · next htake => exact (h.takes htake).serve
  · next htake => exact h.takes htake

theorem Keeps.assemblyExpires {i : Fin 2} : Keeps s₀ (s.assemblyExpires i) := by
  unfold State.assemblyExpires
  split
  · exact .cond h.setSlot.countMalformed.raise h
  · exact h

theorem Keeps.armingExpires : Keeps s₀ s.armingExpires := by
  unfold State.armingExpires
  split
  · exact .cond h.setArming h
  · exact h

/-! ## The frame switch (chapters 1 and 2) -/

/-- R14: a frame is queued where fewer than 32 wait. -/
theorem Keeps.receive {p : Port} {q : Received} : Keeps s₀ (s.receive p q) := by
  unfold State.receive
  dsimp only
  split
  · next hroom =>
    exact h.trans (.setPort (fun _ => by rw [List.length_append]; exact hroom) (by exact id))
  · exact .raise (h.trans (.setPort (by exact id) (by exact id)))

theorem Keeps.forward {out : PortSet} {f : CmsFrame} : Keeps s₀ (s.forward out f) := by
  have onB : Keeps s₀ (if out.B then s.offer .B .forwarded f else s) := .cond h.offer h
  have onM := Keeps.cond (p := out.M = true) (onB.offer (p := .M) (o := .forwarded) (f := f)) onB
  exact .cond onM.offer onM

/-- R22, R25: what a match writes of an entry is neither its key nor its source. -/
theorem Keeps.routeBy {e : RouteEntry} {p : Port} {q : Received} : Keeps s₀ (s.routeBy e p q) := by
  have counted : Keeps s₀ (s.setRoutes (s.switch.routes.map fun x => if x.sameKey e then x.matched p q.arrival else x)) := by
    refine h.trans (.setRoutes fun hs => hs.map _ fun x => ?_)
    split
    · exact ⟨rfl, rfl⟩
    · exact ⟨rfl, rfl⟩
  exact .cond counted counted.forward

theorem Keeps.countUnrouted {p : Port} : Keeps s₀ (s.countUnrouted p) := by
  have counted : Keeps s { s with switch := { s.switch with unrouted := bump s.switch.unrouted } } :=
    .of_ports (fun p => by cases p <;> rfl) rfl
  exact (h.trans counted).raise

end

/-- The state of a frame dealt with up to its delivery. -/
def Sorted.state : Sorted → State
  | .finished s => s
  | .delivered _ _ s => s
  | .managed _ s => s

theorem Keeps.deliver {s₀ s : State} (h : Keeps s₀ s) {p : Port} {q : Received} : Keeps s₀ (s.deliver p q).state := by
  unfold State.deliver
  split
  · exact h
  · split
    · exact h
    · split
      · exact h.countMalformed
      · split
        · exact h
        · exact h

theorem Keeps.sort {s₀ s : State} (h : Keeps s₀ s) {p : Port} {q : Received} : Keeps s₀ (s.sort p q).state := by
  unfold State.sort
  split
  · exact h.countMalformed
  · exact h
  · dsimp only
    split
    · exact h.forward.deliver
    · exact h.forward
  · dsimp only
    split
    · exact h.routeBy.deliver
    · exact h.routeBy
  · exact h.countUnrouted

theorem Keeps.sortHead {s : State} {p : Port} {x : Sorted} (h : s.sortHead p = some x) : Keeps s x.state := by
  unfold State.sortHead State.popHead at h
  cases hqueue : (s.port p).ingress with
  | nil => simp [hqueue] at h
  | cons q rest =>
    simp only [hqueue, Option.some.injEq] at h
    subst h
    refine Keeps.sort (.setPort (fun hs => ?_) (by exact id))
    rw [hqueue, List.length_cons] at hs
    exact Nat.le_of_succ_le hs

theorem Keeps.onDelivery {s : State} {p : Port} {k : MsgKind} {f : Received → State → State}
    (g : ∀ q s₀ s, Keeps s₀ s → Keeps s₀ (f q s)) : Keeps s (s.onDelivery p k f) := by
  unfold State.onDelivery
  split
  · next hsort => exact .cond (g _ _ _ (.sortHead hsort)) (.refl s)
  all_goals exact .refl s

theorem Keeps.onOrder {s : State} {p : Port} {o : CoupOrder} {f : OrderOf → State → State}
    (g : ∀ q s₀ s, Keeps s₀ s → Keeps s₀ (f q s)) : Keeps s (s.onOrder p o (State.takeOrder f)) := by
  unfold State.onOrder
  split
  · next hsort =>
    have delivered := Keeps.sortHead hsort
    exact .cond (delivered.takeOrder (g _ _ _ delivered)) (.refl s)
  · exact .refl s

theorem Keeps.onRequest {s : State} {r : Req} {f : Nat → List Byte → State → State}
    (g : ∀ source m s, Keeps s (f source m s)) : Keeps s (s.onRequest r f) := by
  unfold State.onRequest
  split
  · next hsort =>
    split
    · next htake => exact .cond ((Keeps.sortHead hsort).takes htake |>.trans (g _ _ _)) (.refl s)
    · exact .refl s
  · exact .refl s

theorem Keeps.owned {s₀ s : State} (h : Keeps s₀ s) {k : MsgKind} {q : Received} : Keeps s₀ (s.owned k q) := by
  cases k
  case speedDemand => exact h.takeDemand fun _ g => g.laneDemand
  case groupDemand => exact h.takeDemand fun _ g => g.groupDemand
  case neutralDemand => exact h.takeDemand fun _ g => g.laneDemand
  case kickDemand => exact h.takeDemand fun _ g => g.laneDemand
  case crashAstern => exact h.takeDemand fun _ g => g.driven (.crashAstern _)
  case helmDemand => exact h.takeDemand fun _ g => g.setHelm
  case takeCommand => exact h.takeCommand
  case releaseCommand => exact h.releaseCommand
  case couplingOrder => exact h.takeOrder h.couplingOrder
  case engineStatus => exact h.takeEngine
  case steerStatus => exact h.takeSteer
  case winchStatus => exact h.takeWinch
  case pumpStatus => exact h.takePump
  case meterReading => exact h.takeReading
  all_goals exact h

theorem Keeps.classifyHead (p : Port) (s : State) : Keeps s (s.classifyHead p) := by
  unfold State.classifyHead
  split
  · exact .refl s
  · next hsort => exact .sortHead hsort
  · next hsort => exact (Keeps.sortHead hsort).owned
  · next hsort => exact (Keeps.sortHead hsort).requestPart

theorem Keeps.onRequestPart (p : Port) (s : State) : Keeps s (s.onRequestPart p) := by
  unfold State.onRequestPart
  split
  · exact .refl s
  · exact .cond (.classifyHead p s) (.refl s)

theorem takeOldest_length_le (c : Nat) (fs : List CmsFrame) : (takeOldest c fs).length ≤ fs.length := by
  induction fs with
  | nil => exact Nat.le_refl 0
  | cons f fs ih =>
    unfold takeOldest
    split
    · exact Nat.le_succ _
    · exact Nat.succ_le_succ ih

theorem Keeps.sendFrame (p : Port) (s : State) : Keeps s (s.sendFrame p) :=
  .cond (.refl s) (.setPort (by exact id) (takeOldest_length_le _ _).trans)

/-! ## The resets (R167, R170) -/

/-- Power-on values meet both laws. -/
theorem Keeps.powerOnUnder (line low : Bool) (straps : BitVec 7) (s : State) : Keeps s (s.powerOnUnder line low straps) :=
  ⟨fun _ p => by cases p <;> exact ⟨Nat.zero_le _, Nat.zero_le _⟩, fun _ => ⟨.nil, Nat.zero_le _, nofun⟩⟩

theorem Keeps.endHold (cause : HoldEnd) (s : State) : Keeps s (s.endHold cause) := by
  obtain ⟨straps, ⟨h, -⟩ | ⟨h, -⟩ | ⟨h, -⟩ | ⟨h, -⟩⟩ := s.endHold_cases cause
  · rw [h]; exact .refl s
  · rw [h]; exact .of_switch rfl
  · rw [h]; exact .of_switch rfl
  · rw [h]; exact .powerOnUnder false false straps s

theorem Keeps.holdInReset (cause : HoldCause) (s : State) : Keeps s (s.holdInReset cause) := by
  obtain ⟨h, -⟩ | ⟨h, -⟩ | ⟨h, -⟩ := s.holdInReset_cases cause
  · rw [h]; exact .refl s
  · rw [h]; exact .powerOnUnder true s.supplyLow s.straps s
  · rw [h]; exact .powerOnUnder s.lineAsserted true s.straps s

/-! ## Every command -/

/-- An event whose effect keeps the laws. -/
theorem Answers.event {t : Nat} {k : State → State} {s : State} (g : ∀ s, Keeps s (k s)) :
    Answers (event t k s) (Keeps s) :=
  ⟨_, rfl, .trans (t := s.at t) (.of_switch rfl) (.cond (.refl _) (g _).flush)⟩

/-- The row of a delivered kind. -/
theorem Answers.delivery {t : Nat} {p : Port} {k : MsgKind} {s : State} :
    Answers (Machine.event t (State.onDelivery p k fun q s => s.owned k q) s) (Keeps s) :=
  .event fun _ => .onDelivery fun _ _ _ h => h.owned

/-- The row of a coupling order. -/
theorem Answers.order {t : Nat} {p : Port} {o : CoupOrder} {s : State} :
    Answers (Machine.event t (State.onOrder p o (State.takeOrder fun q s => s.couplingOrder o q)) s) (Keeps s) :=
  .event fun _ => .onOrder fun _ _ _ h => h.couplingOrder

/-- The row of a request. -/
theorem Answers.request {t : Nat} {r : Req} {s : State} :
    Answers (Machine.event t (State.onRequest r fun source m => State.execute r (fun s => r.owner source m s) source m) s)
      (Keeps s) :=
  .event fun _ => .onRequest fun source m s => (Keeps.refl s).execute (.owner source m s r)

end Sys2Proof.Machine
end

section
/-!
PROOFS. Every step keeps the laws of the frame switch (O55), and they hold at reset with the others (O60).
-/

namespace Sys2Proof.Machine

/-- Every command keeps the laws of the frame switch. -/
theorem exec_keeps (c : Instr) (s : State) : Answers (exec c s) (Keeps s) := by
  cases c
  case frameReceived t p f =>
    exact .event (k := fun s => if f.wf then s.receive p (receivedOf f s.now) else s) fun s =>
      .cond (Keeps.refl s).receive (.refl s)
  case classifyFrame t p => exact .event (.classifyHead p)
  case segmentTakesFrame t p => exact .event (.sendFrame p)
  case mgmtRequestPart t p => exact .event (.onRequestPart p)
  case assemblyTimerExpiry t i => exact .event fun s => (Keeps.refl s).assemblyExpires
  case resetArmExpiry t => exact .event fun s => (Keeps.refl s).armingExpires
  case powerOnReset t cause => exact ⟨_, rfl, .trans (t := s.at t) (.of_switch rfl) (.endHold cause _)⟩
  case resetLineAsserted t cause => exact ⟨_, rfl, .trans (t := s.at t) (.of_switch rfl) (.holdInReset cause _)⟩
  case demandTimeoutExpiry t j => exact .event fun s => (Keeps.refl s).timeoutExpires
  case commandHoldExpiry t j => exact .event fun s => (Keeps.refl s).holdExpires
  case commandStatePeriod t => exact .event fun s => (Keeps.refl s).commandStateDue
  case laneStatusTimeout t l => exact .event fun s => (Keeps.refl s).laneSilent
  case clutchConfirmTimeout t l => exact .event fun s => (Keeps.refl s).clutchExpires
  case neutralConfirmTimeout t l => exact .event fun s => (Keeps.refl s).neutralExpires
  case dwellExpiry t l => exact .event fun s => (Keeps.refl s).dwellExpires
  case kickTimerExpiry t l => exact .event fun s => (Keeps.refl s).kickExpires
  case rampTimerExpiry t l => exact .event fun s => (Keeps.refl s).rampExpires
  case laneRefreshExpiry t l => exact .event fun s => (Keeps.refl s).laneRefreshes
  case laneSummaryPeriod t l => exact .event fun s => (Keeps.refl s).laneSummaryDue
  case groupRampExpiry t g => exact .event fun s => .of_driven (.groupRamp g s)
  case groupHoldExpiry t g => exact .event fun s => (Keeps.refl s).groupHold
  case actuatorRateExpiry t a => exact .event fun s => (Keeps.refl s).actRate
  case actuatorRefreshExpiry t a => exact .event fun s => (Keeps.refl s).actRefresh
  case actuatorStatusTimeout t a => exact .event fun s => (Keeps.refl s).actTimeout
  case helmSummaryPeriod t => exact .event fun s => (Keeps.refl s).helmSummaryDue
  case couplingStatusTimeout t c => exact .event fun s => (Keeps.refl s).coupSilent
  case slackTimerExpiry t c => exact .event fun s => (Keeps.refl s).slackExpires
  case couplingOperationTimeout t c => exact .event fun s => (Keeps.refl s).operationExpires
  case couplingRepeatExpiry t c => exact .event fun s => (Keeps.refl s).coupRepeats
  case couplingSummaryPeriod t c => exact .event fun s => (Keeps.refl s).coupSummaryDue
  case permitExpiry t => exact .event fun s => (Keeps.refl s).permitExpires
  case meterTimerExpiry t ch => exact .event fun s => (Keeps.refl s).meterExpires
  case transferStartTimeout t => exact .event fun s => (Keeps.refl s).startExpires
  case transferStopTimeout t => exact .event fun s => (Keeps.refl s).stopExpires
  case transferRepeatExpiry t => exact .event fun s => (Keeps.refl s).pumpRepeats
  case speedDemand | neutralDemand | kickDemand | crashAstern | groupDemand | helmDemand | takeCommand
    | releaseCommand | engineStatus | steerStatus | winchStatus | meterReading | pumpStatus => exact .delivery
  case makeUp | ease | release | lock | unlock | lockAll | unlockAll | permit => exact .order
  all_goals exact .request

theorem step_keeps (s : State) : Answers (step s) (Keeps s) := by
  unfold step State.front
  cases hpending : s.pending with
  | nil => exact ⟨s, rfl, .refl s⟩
  | cons c rest =>
    obtain ⟨u, hexec, hkeeps⟩ := exec_keeps c { s with pending := rest }
    have taken : Keeps s { s with pending := rest } := .of_switch rfl
    exact ⟨u, hexec, taken.trans hkeeps⟩

end Sys2Proof.Machine

open Sys2Proof Sys2Proof.Machine

/-- Settles O55: the two laws are those of `Keeps`, and every step keeps them. -/
theorem everyStepKeepsTheQueuesAndTheRouteTable : Obligations.EveryStepKeepsTheQueuesAndTheRouteTable := by
  unfold Obligations.EveryStepKeepsTheQueuesAndTheRouteTable
  have kept : ∀ s u : State, step s = .next u → Keeps s u := by
    intro s u h
    obtain ⟨w, hw, hkeeps⟩ := step_keeps s
    cases h.symm.trans hw
    exact hkeeps
  exact ⟨fun s u hs h => (kept s u h).queues hs, fun s u hs h => (kept s u h).routes hs⟩

/-- Settles O60: at reset the queues and the table are empty, no slot is occupied and no row is loaded. -/
theorem resetKeepsEveryLaw : Obligations.ResetKeepsEveryLaw := by
  unfold Obligations.ResetKeepsEveryLaw
  have hactive : State.reset.transfers.active = none := rfl
  have hwaiting : State.reset.transfers.waiting = none := rfl
  refine ⟨?queues, ?routes, ?locks, ?releases, ?slots, ?hoses, ?setpoints, rfl⟩
  case queues => exact fun p => by cases p <;> exact ⟨Nat.zero_le _, Nat.zero_le _⟩
  case routes => exact ⟨.nil, Nat.zero_le _, nofun⟩
  case locks => intro c _; simp [State.reset, CoupRec.reset]
  case releases => intro c row hrow; simp [State.reset] at hrow
  case slots => simp [SlotLaw, hactive, hwaiting]
  case hoses => simp [HoseLaw, hactive]
  case setpoints => intro l; simp [State.lane, State.reset, LaneRec.reset]
end

section
/-!
PROOFS. The rows of the table that begin with the frame at the head of a port's queue are one step of the part (O11), and what
the step of a completed request is.
-/

namespace Sys2Proof.Machine

/-! ## Delivery to an owner (R15, R18) -/

theorem State.sorted_iff {t : Nat} {p : Port} {s : State} {x : Sorted} :
    s.sorted t p = some x ↔ s.held = false ∧ (s.at t).sortHead p = some x := by
  unfold State.sorted
  cases hheld : s.held <;> simp [hheld]

theorem State.delivery_iff {t : Nat} {p : Port} {s s1 : State} {k : MsgKind} {q : Received} :
    s.delivery t p = some (k, q, s1) ↔ s.held = false ∧ (s.at t).sortHead p = some (.delivered k q s1) := by
  rw [← State.sorted_iff]
  unfold State.delivery
  split
  · next h => simp [h]
  · next h => exact ⟨nofun, fun hs => absurd hs (h k q s1)⟩

section
variable {t : Nat} {p : Port} {s s1 : State} {k : MsgKind} {q : Received} (h : s.delivery t p = some (k, q, s1))
include h

/-- A classification that delivers the head ends with what the owner of its kind does. -/
theorem exec_classifyFrame_of_delivery : exec (.classifyFrame t p) s = .next (s1.owned k q).flush := by
  obtain ⟨hheld, hhead⟩ := State.delivery_iff.mp h
  calc exec (.classifyFrame t p) s = .next ((s.at t).classifyHead p).flush := event_of_awake hheld
    _ = .next (s1.owned k q).flush := by rw [State.classifyHead, hhead]

/-- The row of the kind that the head is delivered as. -/
theorem event_onDelivery_of_delivery (f : Received → State → State) :
    event t (State.onDelivery p k f) s = .next (f q s1).flush := by
  obtain ⟨hheld, hhead⟩ := State.delivery_iff.mp h
  rw [event_of_awake hheld, State.onDelivery, hhead]
  simp only [if_true]

/-- The row of the order that a delivered COUPLING_ORDER carries. -/
theorem event_onOrder_of_delivery {o : CoupOrder} (hk : k = .couplingOrder) (ho : demandOrder q.frame.data = o)
    (f : Received → State → State) : event t (State.onOrder p o f) s = .next (f q s1).flush := by
  subst hk
  obtain ⟨hheld, hhead⟩ := State.delivery_iff.mp h
  rw [event_of_awake hheld, State.onOrder, hhead]
  simp only [if_pos ho]

/-- A COUPLING_ORDER is classified as the row of the order it carries. -/
theorem exec_classifyFrame_of_order (hk : k = .couplingOrder) :
    exec (.classifyFrame t p) s = event t (State.onOrder p (demandOrder q.frame.data)
      (State.takeOrder (State.couplingOrder (demandOrder q.frame.data)))) s := by
  have hrow := exec_classifyFrame_of_delivery h
  rw [hk] at hrow
  exact hrow.trans (event_onOrder_of_delivery h hk rfl (State.takeOrder (State.couplingOrder (demandOrder q.frame.data)))).symm
end

/-! ## Requests (R10, R11, R159) -/

theorem State.completed_iff {t source : Nat} {m : List Byte} {s s2 : State} : s.completed t = some (source, m, s2) ↔
    ∃ q s1, s.handed t = some (q, s1) ∧ s1.takePart q = (s2, some m) ∧ q.frame.id.source.toNat = source := by
  constructor
  · intro h
    unfold State.completed at h
    split at h
    · next q s1 hq =>
      split at h
      · next s2' m' htake =>
        simp only [Option.some.injEq, Prod.mk.injEq] at h
        obtain ⟨hsource, rfl, rfl⟩ := h
        exact ⟨q, s1, hq, htake, hsource⟩
      · nomatch h
    · nomatch h
  · rintro ⟨q, s1, hq, htake, rfl⟩
    exact State.completed_of_takePart hq htake

/-- The head of B handed to the management block, as the switch finds it. -/
theorem State.sortHead_of_handed {t : Nat} {s s1 : State} {q : Received} (h : s.handed t = some (q, s1)) :
    s.held = false ∧ (s.at t).sortHead .B = some (.managed q s1) := by
  rw [← State.sorted_iff]
  unfold State.handed at h
  split at h
  · next q' s1' hs =>
    simp only [Option.some.injEq, Prod.mk.injEq] at h
    obtain ⟨rfl, rfl⟩ := h
    exact hs
  · nomatch h

/-- The row of a request is its execution, once it is complete. -/
theorem exec_of_command {t : Nat} {r : Req} {c : Instr} (h : r.command t = some c) (s : State) :
    exec c s = event t (State.onRequest r fun source m => State.execute r (fun s => r.owner source m s) source m) s := by
  cases r <;> simp only [Req.command, Option.some.injEq, reduceCtorEq] at h <;> subst h <;> rfl

/-- The row of the request that the head of B completes. -/
theorem exec_of_completed {t source : Nat} {m : List Byte} {s s2 : State} {c : Instr}
    (h : s.completed t = some (source, m, s2)) (hc : (requestOf m).command t = some c) :
    exec c s = .next (s2.serve source m).flush := by
  obtain ⟨q, s1, hq, htake, rfl⟩ := State.completed_iff.mp h
  obtain ⟨hheld, hhead⟩ := State.sortHead_of_handed hq
  rw [exec_of_command hc, event_of_awake hheld, State.onRequest, hhead]
  simp only [htake, if_true, State.serve]

/-- A classification that completes a request executes it. -/
theorem exec_classifyFrame_of_completed {t source : Nat} {m : List Byte} {s s2 : State}
    (h : s.completed t = some (source, m, s2)) :
    exec (.classifyFrame t .B) s = .next (s2.serve source m).flush := by
  obtain ⟨q, s1, hq, htake, rfl⟩ := State.completed_iff.mp h
  obtain ⟨hheld, hhead⟩ := State.sortHead_of_handed hq
  calc exec (.classifyFrame t .B) s = .next ((s.at t).classifyHead .B).flush := event_of_awake hheld
    _ = .next (s2.serve q.frame.id.source.toNat m).flush := by simp only [State.classifyHead, hhead, State.requestPart, htake]

/-- So does the row of request parts. -/
theorem exec_mgmtRequestPart_of_completed {t source : Nat} {m : List Byte} {s s2 : State}
    (h : s.completed t = some (source, m, s2)) :
    exec (.mgmtRequestPart t .B) s = .next (s2.serve source m).flush := by
  obtain ⟨q, s1, hq, htake, rfl⟩ := State.completed_iff.mp h
  simp only [exec_mgmtRequestPart_of_handed hq, State.requestPart, htake]

end Sys2Proof.Machine

open Sys2Proof Sys2Proof.Machine

/-- Settles O11: classification and the row of the kind, or of the request, end with the same owner's effect. -/
theorem classificationIsTheOwnersStep : Obligations.ClassificationIsTheOwnersStep := by
  unfold Obligations.ClassificationIsTheOwnersStep
  refine ⟨fun t p s k q s1 h => ?delivered, fun t s s2 source m c h hc => ?completed⟩
  case delivered =>
    have hrow := exec_classifyFrame_of_delivery h
    cases k
    case couplingOrder =>
      refine (exec_classifyFrame_of_order h rfl).trans ?_
      cases demandOrder q.frame.data <;> rfl
    case speedDemand | groupDemand | neutralDemand | kickDemand | crashAstern | helmDemand | takeCommand | releaseCommand
      | engineStatus | steerStatus | winchStatus | pumpStatus | meterReading =>
      exact hrow.trans (event_onDelivery_of_delivery h _).symm
    all_goals rfl
  case completed =>
    have hserved := exec_of_completed h hc
    exact ⟨(exec_classifyFrame_of_completed h).trans hserved.symm,
      (exec_mgmtRequestPart_of_completed h).trans hserved.symm⟩
end

section
/-!
PROOFS. What the step of a request looks like where its owner queues nothing and raises nothing, and LOAD_ROW of the route
table (R13, R19, R159, R165).
-/

namespace Sys2Proof.Machine

/-! ## A request answered -/

theorem Req.number_done : byte Result.done.number = 0#8 := rfl

theorem State.armAfter_of_ne {r : Req} (h : r ≠ .resetArm) (source : Nat) (s : State) :
    s.armAfter source r = s.setArming none := by
  cases r
  case resetArm => exact absurd rfl h
  all_goals rfl

theorem State.quiet_setArming (a : Option Arming) (s : State) : (s.setArming a).quiet = s.quiet.setArming a := rfl

theorem Silent.setArming (a : Option Arming) (s : State) : Silent s (s.setArming a) :=
  ⟨rfl, rfl, fun _ => rfl, fun p => by cases p <;> rfl⟩

section
variable {t source : Nat} {r : Req} {m : List Byte} {s s2 : State} {c : Instr} (h : Completes t r source m s s2)
  (hc : r.command t = some c)
include h hc

/-- The step of a request that passes the tests of length and mode: its owner's answer, sent. -/
theorem exec_of_completes :
    exec c s = .next (State.conclude source m r (r.owner source m s2)).flush := by
  obtain ⟨hcompleted, rfl, hearly⟩ := h
  rw [exec_of_completed hcompleted hc, State.serve, State.execute, hearly]

/-- An answer of an owner that queues nothing and raises nothing: the arming record is absent, and the reply goes out. -/
theorem becomes_of_answer {a : Answer} {w : State} (hr : r ≠ .resetArm) (ha : r.owner source m s2 = a)
    (hsilent : Silent s2 a.state) (hquiet : a.state.quiet = w.quiet) (hbody : a.body.length ≤ 62) :
    Becomes c s s2 (w.setArming none) [] fun u =>
      Replies s2 u source (m.getD 0 0 :: byte a.result.number :: a.body) ∧ QueuesNothing s2 u := by
  have hflush := Notified.flush ((a.state.setArming none).reply source (m.getD 0 0) a.result a.body)
  have harmed := hsilent.trans (.setArming none a.state)
  refine ⟨_, exec_of_completes h hc, ?looks, ?replies, fun p hp => ?queues⟩
  all_goals rw [ha, State.conclude, State.armAfter_of_ne hr]
  case looks =>
    obtain ⟨hnow, hq, hflags⟩ := harmed.looksLike_reply hflush (by rw [State.quiet_flush, State.quiet_reply])
    exact ⟨hnow, by rw [hq, State.quiet_setArming, hquiet, State.quiet_setArming], hflags⟩
  case replies => exact harmed.replies hbody (Nat.zero_le _) hflush
  case queues => rw [hflush.port p hp, State.reply_port_ne hp, harmed.out p]

/-- A request answered DONE by an owner that queues nothing and raises nothing. -/
theorem served_of_done {w s3 : State} (hr : r ≠ .resetArm) (ha : r.owner source m s2 = w.done) (hsilent : Silent s2 w)
    (hquiet : w.quiet = s3.quiet) : Served c source m s s2 s3 [] [] (QueuesNothing s2) :=
  becomes_of_answer h hc hr ha hsilent hquiet (Nat.zero_le _)

/-- A request refused by its owner. -/
theorem refused_of_refuses {why : Result} (hr : r ≠ .resetArm) (ha : r.owner source m s2 = s2.refuses why) :
    Refused c source m s s2 why := by
  obtain ⟨u, hexec, hlooks, hreplies, hqueues⟩ := becomes_of_answer h hc hr ha (.refl s2) rfl (Nat.zero_le _)
  exact ⟨u, hexec, hlooks, hqueues, hreplies⟩
end

/-! ## LOAD_ROW of the route table (R19) -/

theorem Silent.setRoutes (es : List RouteEntry) (s : State) : Silent s (s.setRoutes es) :=
  ⟨rfl, rfl, fun _ => rfl, fun p => by rw [State.port_setRoutes]⟩

theorem any_sameKey_iff {e : RouteEntry} {es : List RouteEntry} :
    es.any e.sameKey = true ↔ ∃ x ∈ es, x.kind = e.kind ∧ x.source = e.source := by
  simp only [List.any_eq_true, RouteEntry.sameKey_iff, eq_comm (a := e.kind), eq_comm (a := e.source)]

theorem State.loadRoute_of_none {s : State} {m : List Byte} (h : routeEntryOf s.node m = none) :
    s.loadRoute m = s.refuses .range := by
  simp only [State.loadRoute, h]

theorem State.loadRoute_of_some {s : State} {m : List Byte} {e : RouteEntry} (h : routeEntryOf s.node m = some e)
    (hroom : (∃ x ∈ s.switch.routes, x.kind = e.kind ∧ x.source = e.source) ∨ s.switch.routes.length < 128) :
    s.loadRoute m = (s.setRoutes (insertRoute e s.switch.routes)).done := by
  simp only [State.loadRoute, h]
  refine if_pos ?_
  rw [Bool.or_eq_true, any_sameKey_iff, decide_eq_true_eq]
  exact hroom

theorem State.loadRoute_of_full {s : State} {m : List Byte} {e : RouteEntry} (h : routeEntryOf s.node m = some e)
    (hnew : ∀ x ∈ s.switch.routes, ¬ (x.kind = e.kind ∧ x.source = e.source)) (hfull : 128 ≤ s.switch.routes.length) :
    s.loadRoute m = s.refuses .range := by
  simp only [State.loadRoute, h]
  refine if_neg ?_
  rw [Bool.or_eq_true, any_sameKey_iff, decide_eq_true_eq]
  rintro (⟨x, hx, hkey⟩ | hroom)
  · exact hnew x hx hkey
  · exact Nat.not_lt.mpr hfull hroom

/-! ## Numbers in a message (11.6) -/

theorem u16_lt (m : List Byte) (k : Nat) : u16 m k < 65536 := by
  have high : u8 m k < 256 := BitVec.isLt _
  have low : u8 m (k + 1) < 256 := BitVec.isLt _
  unfold u16
  omega

theorem u32_eq (m : List Byte) (k : Nat) :
    u32 m k = u8 m k * 2 ^ 24 + u8 m (k + 1) * 2 ^ 16 + u8 m (k + 2) * 2 ^ 8 + u8 m (k + 3) := by
  have hlast : k + 2 + 1 = k + 3 := rfl
  rw [u32, u16, u16, hlast]
  omega

/-- Two's complement in 16 bits. -/
theorem i16_eq (m : List Byte) (k : Nat) :
    i16 m k = if u16 m k < 32768 then (u16 m k : Int) else (u16 m k : Int) - 65536 := by
  rw [i16, BitVec.toInt_eq_toNat_cond, BitVec.toNat_ofNat, Nat.mod_eq_of_lt (u16_lt m k)]
  split <;> split <;> omega

end Sys2Proof.Machine

open Sys2Proof Sys2Proof.Machine

/-- Settles O15: the entry of `routeEntryOf_iff` is put in its place by `insertRoute`, or refused. -/
theorem routeEntriesLoadByKey : Obligations.RouteEntriesLoadByKey := by
  unfold Obligations.RouteEntriesLoadByKey
  refine ⟨fun t source m s s2 e h => ⟨fun hnone => ?norow, fun hsome => ⟨fun hroom => ?loads, fun hnew hfull => ?full⟩⟩,
    fun e es horder => ⟨insertRoute_pairwise horder, mem_insertRoute horder⟩, fun m k => ?numbers,
    fun own m e => routeEntryOf_iff⟩
  case norow => exact refused_of_refuses h rfl nofun (State.loadRoute_of_none hnone)
  case loads => exact served_of_done h rfl nofun (State.loadRoute_of_some hsome hroom) (.setRoutes _ s2) rfl
  case full => exact refused_of_refuses h rfl nofun (State.loadRoute_of_full hsome hnew hfull)
  case numbers => exact ⟨rfl, rfl, u32_eq m k, i16_eq m k⟩
end

section
/-!
PROOFS. Frames that are not copied: what the switch queues or drops on arrival (O6), and a frame that no route entry matches
(O9).
-/

namespace Sys2Proof.Machine

/-! ## The end of an event with no summary due -/

theorem forEach_of_fixed {ι : Type} {is : List ι} {f : ι → State → State} {s : State} (h : ∀ i, f i s = s) :
    forEach is f s = s := by
  induction is with
  | nil => rfl
  | cons i is ih =>
    have hwalk : forEach (i :: is) f s = forEach is f (f i s) := rfl
    rw [hwalk, h, ih]

theorem State.flush_of_nothingDue {s : State} (h : NothingDue s) : s.flush = s := by
  have hs : { s with due := Due.none } = s := by rw [← h]
  unfold State.flush
  rw [h, hs]
  have lanes : forAll 4 (fun l s => if Due.none.lanes.get l then s.laneSummary l else s) s = s :=
    forEach_of_fixed fun l => if_neg (by simp [Due.none])
  have couplings : forAll 32 (fun c s => if Due.none.couplings.get c then s.coupSummary c else s) s = s :=
    forEach_of_fixed fun c => if_neg (by simp [Due.none])
  dsimp only
  rw [lanes]
  exact (if_neg Bool.false_ne_true).trans couplings

/-! ## What the part's own frames and summaries keep -/

/-- A relation between a state and a later one that no frame of the part and no raise of an event breaks, nor a write
beside the switch and the flags. -/
structure Stable (R : State → State → Prop) : Prop where
  refl    : ∀ s, R s s
  trans   : ∀ {s t u}, R s t → R t u → R s u
  enqueue : ∀ p f s, R s (s.enqueue p .originated f)
  latch   : ∀ e d s, R s (s.latch e d)
  write   : ∀ {s t : State}, t.switch = s.switch → t.mgmt = s.mgmt → R s t

section
variable {R : State → State → Prop}

theorem relation_cond {s t u : State} {p : Prop} [Decidable p] (ht : R s t) (hu : R s u) : R s (if p then t else u) := by
  split
  · exact ht
  · exact hu

variable (h : Stable R)
include h

theorem Stable.raiseCongested (p : Port) (s : State) : R s (s.raiseCongested p) := by
  have hlatch := h.latch .portCongested (some (portCode p)) s
  unfold State.raiseCongested
  dsimp only
  exact relation_cond (relation_cond (h.trans (h.trans hlatch (h.enqueue _ _ _)) (h.latch _ _ _))
    (h.trans hlatch (h.enqueue _ _ _))) hlatch

theorem Stable.offer (p : Port) (f : CmsFrame) (s : State) : R s (s.offer p .originated f) :=
  relation_cond (h.trans (h.enqueue p f s) (h.raiseCongested p _)) (h.enqueue p f s)

theorem Stable.raise (e : Event) (d : Option Nat) (s : State) : R s (s.raise e d) :=
  relation_cond (h.trans (h.latch e d s) (h.offer .B _ _)) (h.latch e d s)

theorem Stable.originateAll (p : Port) (fs : List CmsFrame) (s : State) : R s (s.originateAll p fs) := by
  induction fs generalizing s with
  | nil => exact h.refl s
  | cons f fs ih =>
    have hqueued := h.trans (h.enqueue p f s) (ih _)
    exact relation_cond (h.trans hqueued (h.raiseCongested p _)) hqueued

theorem Stable.forAll {n : Nat} {f : Fin n → State → State} (hf : ∀ i s, R s (f i s)) (s : State) :
    R s (forAll n f s) := by
  have walk : ∀ (is : List (Fin n)) (s : State), R s (forEach is f s) := by
    intro is
    induction is with
    | nil => exact h.refl
    | cons i is ih => exact fun s => h.trans (hf i s) (ih (f i s))
  exact walk _ s

theorem Stable.laneSummary (l : Fin 4) (s : State) : R s (s.laneSummary l) := by
  unfold State.laneSummary
  split
  · exact h.refl s
  · exact h.trans (h.write (by rfl) (by rfl)) (h.originateAll _ _ _)

theorem Stable.helmSummary (s : State) : R s s.helmSummary :=
  h.trans (h.write (by rfl) (by rfl)) (h.originateAll _ _ _)

theorem Stable.coupSummary (c : Fin 32) (s : State) : R s (s.coupSummary c) := by
  unfold State.coupSummary
  split
  · exact h.refl s
  · exact h.trans (h.write (by rfl) (by rfl)) (h.offer _ _ _)

theorem Stable.commandState (s : State) : R s s.commandState :=
  h.trans (h.write (by rfl) (by rfl)) (h.offer _ _ _)

/-- The summaries queued as an event ends. -/
theorem Stable.flush (s : State) : R s s.flush := by
  have hstart : R s { s with due := Due.none } := h.write rfl rfl
  have hlanes := h.trans hstart (h.forAll (n := 4)
    (f := fun l s' => if s.due.lanes.get l then s'.laneSummary l else s')
    (fun l s' => relation_cond (h.laneSummary l s') (h.refl s')) _)
  have hhelm := relation_cond (R := R) (p := s.due.helm = true) (h.trans hlanes (h.helmSummary _)) hlanes
  have hcoups := h.trans hhelm (h.forAll (n := 32)
    (f := fun c s' => if s.due.couplings.get c then s'.coupSummary c else s')
    (fun c s' => relation_cond (h.coupSummary c s') (h.refl s')) _)
  exact relation_cond (h.trans hcoups (h.commandState _)) hcoups
end

/-! ## Frames of the part are not forwarded (R30) -/

/-- From `s` to `t` no port counts a frame as forwarded. -/
def Uncopied (s t : State) : Prop := ∀ p, (t.port p).forwarded = (s.port p).forwarded

theorem PortState.offered_forwarded (f : CmsFrame) (ps : PortState) :
    (ps.offered .originated f).forwarded = ps.forwarded := by
  unfold PortState.offered
  split
  · rfl
  · split
    · split <;> rfl
    · rfl

theorem Uncopied.stable : Stable Uncopied where
  refl _ _ := rfl
  trans h g p := (g p).trans (h p)
  enqueue p f s p' := by
    rw [State.enqueue, State.port_setPort]
    split
    · next hp => rw [hp, PortState.offered_forwarded]
    · rfl
  latch _ _ _ _ := rfl
  write hswitch _ p := by rw [State.port_congr hswitch p]

theorem Silent.uncopied {s w : State} (h : Silent s w) : Uncopied s w :=
  fun p => congrArg (fun ps => ps.forwarded) (h.out p)

theorem State.Notice.source {s : State} {f : CmsFrame} (h : s.Notice f) : f.id.source = BitVec.ofNat 7 s.node := by
  obtain ⟨k, data, -, rfl⟩ := h
  rfl

/-- Notices of the part are no copies. -/
theorem Notified.nothingForwarded {es : List Event} {n : Nat} {s t : State} (h : Notified es n s t) (g : Uncopied s t) :
    NothingForwarded s t := by
  refine fun p => ⟨g p, fun f hf => ?_⟩
  by_cases hp : p = .B
  · subst hp
    exact (h.frames f hf).imp_right State.Notice.source
  · exact .inl (h.port p hp ▸ hf)

theorem Silent.nothingForwarded {s w u : State} (h : Silent s w) (g : NothingForwarded w u) : NothingForwarded s u := by
  intro p
  obtain ⟨hcount, hframes⟩ := g p
  refine ⟨hcount.trans (h.uncopied p), fun f hf => ?_⟩
  rw [← h.egress p, ← h.node]
  exact hframes f hf

/-! ## Silent effects on a port -/

theorem Silent.setPort {p : Port} {ps : PortState} {s : State} (h : ps.out = (s.port p).out) :
    Silent s (s.setPort p ps) := by
  refine ⟨State.setPort_now _ _ _, State.setPort_node _ _ _, fun e => ?_, fun p' => ?_⟩
  · rw [State.flag, State.flag, State.setPort_mgmt]
  · rw [State.port_setPort]
    split
    · next hp => rw [hp, h]
    · rfl

theorem State.countMalformed_setPort (p : Port) (ps : PortState) (s : State) :
    (s.setPort p ps).countMalformed p = s.setPort p { ps with malformed := bump ps.malformed } := by
  cases p <;> rfl

theorem State.setPort_at (t : Nat) (p : Port) (ps : PortState) (s : State) :
    (s.at t).setPort p ps = (s.setPort p ps).at t := by
  cases p <;> rfl

theorem State.port_at (t : Nat) (s : State) (p : Port) : (s.at t).port p = s.port p := State.port_congr rfl p

theorem LooksLike.congr {s w w' u : State} {es : List Event} (h : LooksLike s w u es) (hquiet : w.quiet = w'.quiet) :
    LooksLike s w' u es := ⟨h.1, h.2.1.trans hquiet, h.2.2⟩

/-- An effect that queues nothing and raises nothing, as the event ends. -/
theorem becomes_of_silent {t : Nat} {s w w' : State} {c : Instr} (hexec : exec c s = .next w'.flush)
    (h : Silent (s.at t) w') (hdue : w'.due = s.due) (hquiet : w'.quiet = w.quiet) :
    Becomes c s (s.at t) w [] (DropsUncopied s) := by
  refine ⟨_, hexec, (h.looksLike (.flush w') (State.quiet_flush w')).congr hquiet, h.queuesNothing (.flush w'),
    h.nothingForwarded ((Notified.flush w').nothingForwarded (Uncopied.stable.flush w')), fun hnothing => ?_⟩
  rw [State.flush_of_nothingDue (hdue.trans hnothing)]
  exact h.out .B

/-- An effect that queues nothing and raises one event, as the event ends. -/
theorem becomes_of_raise {t : Nat} {s w w' : State} {c : Instr} {e : Event} {d : Option Nat} (he : e ≠ .portCongested)
    (hexec : exec c s = .next (w'.raise e d).flush) (h : Silent (s.at t) w') (hquiet : w'.quiet = w.quiet) :
    Becomes c s (s.at t) w [e] fun u => QueuesNothing s u ∧ NothingForwarded s u ∧ Raised s u e d := by
  have hraise := Notified.raise_flush he d w'
  refine ⟨_, hexec, (h.looksLike hraise ((State.quiet_flush _).trans (State.quiet_raise _ _ _))).congr hquiet,
    h.queuesNothing hraise,
    h.nothingForwarded (hraise.nothingForwarded (Uncopied.stable.trans (Uncopied.stable.raise e d w') (Uncopied.stable.flush _))), ?_⟩
  rw [Raised, State.raise_flush_flag he, h.flag]
  rfl

/-! ## A frame received (R14) -/

section
variable {t : Nat} {p : Port} {f : WireFrame} {s : State} (hheld : s.held = false) (hwf : f.wf = true)
include hheld hwf

theorem exec_frameReceived :
    exec (.frameReceived t p f) s = .next ((s.at t).receive p (receivedOf f (s.at t).now)).flush := by
  have hevent := event_of_awake (t := t) (k := fun s => if f.wf then s.receive p (receivedOf f s.now) else s) hheld
  rw [if_pos hwf] at hevent
  exact hevent

theorem becomes_of_queued (hroom : (s.port p).ingress.length < 32) :
    Becomes (.frameReceived t p f) s (s.at t)
      (s.setPort p { s.port p with
        received := bump (s.port p).received
        ingress := (s.port p).ingress ++ [receivedOf f (s.at t).now] }) [] (DropsUncopied s) := by
  have hreceive : (s.at t).receive p (receivedOf f (s.at t).now) = (s.at t).setPort p { s.port p with
      received := bump (s.port p).received, ingress := (s.port p).ingress ++ [receivedOf f (s.at t).now] } := by
    simp only [State.receive, State.port_at]
    exact if_pos hroom
  have hexec := exec_frameReceived (t := t) hheld hwf (p := p)
  rw [hreceive] at hexec
  exact becomes_of_silent hexec (.setPort (by rw [State.port_at]; rfl)) (State.setPort_due _ _ _)
    (by rw [State.setPort_at, State.quiet_at])

theorem becomes_of_overflow (hfull : (s.port p).ingress.length = 32) :
    Becomes (.frameReceived t p f) s (s.at t)
      (s.setPort p { s.port p with
        received := bump (s.port p).received, ingressOverflow := bump (s.port p).ingressOverflow })
      [.ingressOverflow] fun u =>
        QueuesNothing s u ∧ NothingForwarded s u ∧ Raised s u .ingressOverflow (some (portCode p)) := by
  have hreceive : (s.at t).receive p (receivedOf f (s.at t).now) = ((s.at t).setPort p { s.port p with
      received := bump (s.port p).received, ingressOverflow := bump (s.port p).ingressOverflow }).raise
        .ingressOverflow (some (portCode p)) := by
    simp only [State.receive, State.port_at]
    exact if_neg (by rw [hfull]; exact Nat.lt_irrefl 32)
  have hexec := exec_frameReceived (t := t) hheld hwf (p := p)
  rw [hreceive] at hexec
  exact becomes_of_raise nofun hexec (.setPort (by rw [State.port_at]; rfl))
    (by rw [State.setPort_at, State.quiet_at])
end

/-! ## Validity (R5) and what becomes of a frame (R16, R21) -/

theorem MsgKind.ofNumber_eq_some {b : Byte} {k : MsgKind} : MsgKind.ofNumber b = some k ↔ b = k.number := by
  constructor
  · intro h
    have hnumber := List.find?_some (p := fun k : MsgKind => k.number == b) h
    exact (beq_iff_eq.mp hnumber).symm
  · rintro rfl
    cases k <;> decide

theorem Received.kind_eq_some {q : Received} {k : MsgKind} : q.kind = some k ↔ q.frame.id.kind = k.number :=
  MsgKind.ofNumber_eq_some

theorem Received.isAddressed_iff {own : Nat} {q : Received} :
    q.isAddressed own = true ↔ q.frame.id.target.toNat = own := beq_iff_eq

/-- The two multi-part kinds. -/
theorem Received.isManagement_iff {q : Received} :
    q.isManagement = true ↔ q.frame.id.kind = 0x90#8 ∨ q.frame.id.kind = 0x85#8 := by
  rw [Received.isManagement, Bool.or_eq_true, beq_iff_eq, beq_iff_eq, Received.kind_eq_some, Received.kind_eq_some]
  rfl

/-- R5: the frames that fail a validity test. -/
theorem Received.isMalformed_iff {own : Nat} {q : Received} : q.isMalformed own = true ↔
    (q.extended = false ∨ q.remote = true ∨ q.frame.id.source = 0#7 ∨ q.frame.id.source = 127#7
      ∨ q.frame.id.target = 127#7 ∨ q.frame.id.source.toNat = own
      ∨ (q.frame.id.kind ≠ 0x90#8 ∧ q.frame.id.kind ≠ 0x85#8
        ∧ (q.frame.id.part ≠ 0#3 ∨ q.frame.id.last = false))) := by
  have hmanagement : q.isManagement = false ↔ q.frame.id.kind ≠ 0x90#8 ∧ q.frame.id.kind ≠ 0x85#8 := by
    rw [← not_or, ← Received.isManagement_iff, Bool.not_eq_true]
  simp only [Received.isMalformed, Bool.or_eq_true, Bool.and_eq_true, Bool.not_eq_true', beq_iff_eq, bne_iff_ne, ne_eq,
    hmanagement, BitVec.toNat_eq, BitVec.toNat_ofNat, or_assoc, and_assoc]

theorem State.fate_of_malformed {s : State} {p : Port} {q : Received} (h : q.isMalformed s.node = true) :
    s.fate p q = .malformed := if_pos h

/-- R16: the well-formed frames that are dropped. -/
theorem State.fate_of_misdirected {s : State} {p : Port} {q : Received}
    (h : (q.frame.id.target.toNat = s.node ∧ q.frame.id.kind = 0x90#8 ∧ p ≠ .B)
      ∨ (q.frame.id.target.toNat = s.node ∧ q.frame.id.kind = 0x85#8)
      ∨ (q.frame.id.target.toNat = s.node ∧ q.frame.id.kind ≠ 0x90#8 ∧ q.frame.id.kind ≠ 0x85#8
          ∧ s.mgmt.mode = .passThrough)
      ∨ (q.frame.id.target.toNat ≠ s.node ∧ (q.frame.id.kind = 0x90#8 ∨ q.frame.id.kind = 0x85#8) ∧ p ≠ .B
          ∧ s.mgmt.mode ≠ .passThrough)) :
    s.fate p q = .malformed := by
  have hrequest : q.kind = some .mgmtRequest ↔ q.frame.id.kind = 0x90#8 := Received.kind_eq_some
  have hreply : q.kind = some .mgmtReply ↔ q.frame.id.kind = 0x85#8 := Received.kind_eq_some
  unfold State.fate
  split
  · rfl
  rcases h with ⟨htarget, hkind, hp⟩ | ⟨htarget, hkind⟩ | ⟨htarget, hkind90, hkind85, hmode⟩ | ⟨htarget, hkind, hp, hmode⟩
  · rw [if_pos (Received.isAddressed_iff.mpr htarget), hrequest.mpr hkind]
    exact if_neg hp
  · rw [if_pos (Received.isAddressed_iff.mpr htarget), hreply.mpr hkind]
  · rw [if_pos (Received.isAddressed_iff.mpr htarget)]
    split
    · next h => exact absurd (hrequest.mp h) hkind90
    · rfl
    · exact if_pos hmode
  · rw [if_neg (fun h => htarget (Received.isAddressed_iff.mp h)), if_pos]
    simp [Received.isManagement_iff.mpr hkind, hp, hmode]

/-- R16: the frames left to the mode. -/
theorem State.fate_of_mode {s : State} {p : Port} {q : Received} (hok : q.isMalformed s.node = false)
    (haddressed : q.frame.id.target.toNat = s.node →
      q.frame.id.kind ≠ 0x90#8 ∧ q.frame.id.kind ≠ 0x85#8 ∧ s.mgmt.mode ≠ .passThrough)
    (hmanagement : q.frame.id.kind = 0x90#8 ∨ q.frame.id.kind = 0x85#8 → p = .B ∨ s.mgmt.mode = .passThrough) :
    s.fate p q = s.fateByMode q := by
  have hrequest : q.kind = some .mgmtRequest ↔ q.frame.id.kind = 0x90#8 := Received.kind_eq_some
  have hreply : q.kind = some .mgmtReply ↔ q.frame.id.kind = 0x85#8 := Received.kind_eq_some
  unfold State.fate
  rw [if_neg (ne_true_of_eq_false hok)]
  split
  · next h =>
    obtain ⟨hkind90, hkind85, hmode⟩ := haddressed (Received.isAddressed_iff.mp h)
    split
    · next h => exact absurd (hrequest.mp h) hkind90
    · next h => exact absurd (hreply.mp h) hkind85
    · exact if_neg hmode
  · refine if_neg fun h => ?_
    simp only [Bool.and_eq_true, bne_iff_ne, ne_eq] at h
    obtain ⟨⟨hkind, hp⟩, hmode⟩ := h
    exact (hmanagement (Received.isManagement_iff.mp hkind)).elim hp hmode

theorem State.fateByMode_passThrough {s : State} {q : Received} (h : s.mgmt.mode = .passThrough) :
    s.fateByMode q = .passThrough := if_pos h

theorem State.fateByMode_routed {s : State} {q : Received} {e : RouteEntry} (h : s.mgmt.mode ≠ .passThrough)
    (he : lookup s.switch.routes q = some e) : s.fateByMode q = .routed e := by
  simp only [State.fateByMode, if_neg h, he]

theorem State.fateByMode_unrouted {s : State} {q : Received} (h : s.mgmt.mode ≠ .passThrough)
    (he : lookup s.switch.routes q = none) : s.fateByMode q = .unrouted := by
  simp only [State.fateByMode, if_neg h, he]

/-! ## The head of a port's queue, taken (R15) -/

/-- The state with the head of a port's queue taken. -/
def State.taken (p : Port) (rest : List Received) (s : State) : State := s.setPort p { s.port p with ingress := rest }

theorem Silent.taken (p : Port) (rest : List Received) (s : State) : Silent s (s.taken p rest) := .setPort rfl

theorem State.taken_at (t : Nat) (p : Port) (rest : List Received) (s : State) :
    (s.at t).taken p rest = (s.taken p rest).at t := by
  cases p <;> rfl

section
variable {t : Nat} {p : Port} {s w : State} {q : Received} {rest : List Received} (hheld : s.held = false)
  (hqueue : (s.port p).ingress = q :: rest)
include hheld hqueue

theorem State.sorted_of_head : s.sorted t p = some (((s.at t).taken p rest).sort p q) :=
  State.sorted_iff.mpr ⟨hheld, State.sortHead_of_cons (by rw [State.port_at, hqueue])⟩

/-- A classification that delivers the head to no owner. -/
theorem exec_classifyFrame_of_finished (hsort : ((s.at t).taken p rest).sort p q = .finished w) :
    exec (.classifyFrame t p) s = .next w.flush := by
  have hsorted := State.sorted_of_head (t := t) hheld hqueue
  rw [hsort] at hsorted
  obtain ⟨-, hhead⟩ := State.sorted_iff.mp hsorted
  calc exec (.classifyFrame t p) s = .next ((s.at t).classifyHead p).flush := event_of_awake hheld
    _ = .next w.flush := by simp only [State.classifyHead, hhead]

/-- R5, R16: a frame dropped whole. -/
theorem becomes_of_malformed (hfate : ((s.at t).taken p rest).fate p q = .malformed) :
    Becomes (.classifyFrame t p) s (s.at t)
      (s.setPort p { s.port p with ingress := rest, malformed := bump (s.port p).malformed }) [] (DropsUncopied s) := by
  have hsort : ((s.at t).taken p rest).sort p q = .finished (((s.at t).taken p rest).countMalformed p) := by
    rw [State.sort, hfate]
  refine becomes_of_silent (exec_classifyFrame_of_finished hheld hqueue hsort)
    ((Silent.taken p rest _).trans (.countMalformed p _)) ?due ?quiet
  case due => rw [State.countMalformed, State.setPort_due, State.taken, State.setPort_due, State.at_due]
  case quiet => rw [State.taken, State.countMalformed_setPort, State.port_at, State.setPort_at, State.quiet_at]

/-- R21: a frame that no entry matches. -/
theorem becomes_of_unrouted (hfate : ((s.at t).taken p rest).fate p q = .unrouted) :
    Becomes (.classifyFrame t p) s (s.at t)
      ({ s with switch := { s.switch with unrouted := bump s.switch.unrouted } }.setPort p
        { s.port p with ingress := rest })
      [.unrouted] fun u => QueuesNothing s u ∧ NothingForwarded s u ∧ Raised s u .unrouted (some (portCode p)) := by
  have hsort : ((s.at t).taken p rest).sort p q = .finished (((s.at t).taken p rest).countUnrouted p) := by
    rw [State.sort, hfate]
  refine becomes_of_raise nofun (exec_classifyFrame_of_finished hheld hqueue hsort)
    ((Silent.taken p rest _).trans ⟨rfl, rfl, fun _ => rfl, fun p => by cases p <;> rfl⟩) ?_
  cases p <;> rfl
end

/-! ## Lookup (R21) -/

section
variable {es : List RouteEntry} {q : Received}

theorem find?_exact_eq_none : es.find? (fun e => e.kind == q.frame.id.kind.toNat
      && e.source == some q.frame.id.source.toNat) = none ↔
    ∀ x ∈ es, ¬ (x.kind = q.frame.id.kind.toNat ∧ x.source = some q.frame.id.source.toNat) := by
  simp

theorem find?_any_eq_none : es.find? (fun e => e.kind == q.frame.id.kind.toNat && e.source == none) = none ↔
    ∀ x ∈ es, ¬ (x.kind = q.frame.id.kind.toNat ∧ x.source = none) := by
  simp

/-- R21: the exact key takes precedence. -/
theorem lookup_eq_some {e : RouteEntry} (h : lookup es q = some e) : e ∈ es ∧ e.kind = q.frame.id.kind.toNat
    ∧ (e.source = some q.frame.id.source.toNat
      ∨ (e.source = none ∧ ∀ x ∈ es, ¬ (x.kind = q.frame.id.kind.toNat ∧ x.source = some q.frame.id.source.toNat))) := by
  unfold lookup at h
  dsimp only at h
  split at h
  · next e' hfind =>
    cases h
    have hkey := List.find?_some hfind
    rw [Bool.and_eq_true, beq_iff_eq, beq_iff_eq] at hkey
    exact ⟨List.mem_of_find?_eq_some hfind, hkey.1, .inl hkey.2⟩
  · next hfind =>
    have hkey := List.find?_some h
    rw [Bool.and_eq_true, beq_iff_eq, beq_iff_eq] at hkey
    exact ⟨List.mem_of_find?_eq_some h, hkey.1, .inr ⟨hkey.2, find?_exact_eq_none.mp hfind⟩⟩

theorem lookup_eq_none : lookup es q = none ↔
    ∀ x ∈ es, x.kind = q.frame.id.kind.toNat → x.source ≠ some q.frame.id.source.toNat ∧ x.source ≠ none := by
  have hboth : lookup es q = none ↔
      (∀ x ∈ es, ¬ (x.kind = q.frame.id.kind.toNat ∧ x.source = some q.frame.id.source.toNat))
      ∧ ∀ x ∈ es, ¬ (x.kind = q.frame.id.kind.toNat ∧ x.source = none) := by
    rw [← find?_exact_eq_none, ← find?_any_eq_none]
    unfold lookup
    dsimp only
    split
    · next hfind => simp [hfind]
    · next hfind => simp [hfind]
  rw [hboth]
  constructor
  · rintro ⟨hexact, hany⟩ x hx hkind
    exact ⟨fun hsource => hexact x hx ⟨hkind, hsource⟩, fun hsource => hany x hx ⟨hkind, hsource⟩⟩
  · intro h
    exact ⟨fun x hx ⟨hkind, hsource⟩ => (h x hx hkind).1 hsource, fun x hx ⟨hkind, hsource⟩ => (h x hx hkind).2 hsource⟩
end

end Sys2Proof.Machine

open Sys2Proof Sys2Proof.Machine

/-- Settles O6: the outcomes of `State.receive`, and the frames that `State.fate` drops. -/
theorem receivedFramesAreQueuedAndMalformedOnesDropped :
    Obligations.ReceivedFramesAreQueuedAndMalformedOnesDropped := by
  unfold Obligations.ReceivedFramesAreQueuedAndMalformedOnesDropped
  refine ⟨⟨fun t p f s hheld hwf hroom => ?queued, fun t p f s hheld hwf hfull => becomes_of_overflow hheld hwf hfull⟩,
    fun own q => Received.isMalformed_iff, fun t p s q rest hheld hqueue hbad => becomes_of_malformed hheld hqueue ?bad⟩
  case queued =>
    obtain ⟨u, hexec, hlooks, hqueues, -⟩ := becomes_of_queued hheld hwf hroom
    exact ⟨u, hexec, hlooks, hqueues⟩
  case bad =>
    have hnode : ((s.at t).taken p rest).node = s.node := State.setPort_node _ _ _
    have hmgmt : ((s.at t).taken p rest).mgmt = s.mgmt := State.setPort_mgmt _ _ _
    rw [← hnode, ← hmgmt] at hbad
    exact hbad.elim State.fate_of_malformed State.fate_of_misdirected

/-- Settles O9: what `lookup` finds, and the frame for which it finds nothing. -/
theorem lookupPrefersTheExactKey : Obligations.LookupPrefersTheExactKey := by
  unfold Obligations.LookupPrefersTheExactKey
  refine ⟨fun es q => ⟨fun e => lookup_eq_some, lookup_eq_none⟩, fun t p s q rest hheld hmode hqueue hok hmgmt hnone => ?_⟩
  have hnode : ((s.at t).taken p rest).node = s.node := State.setPort_node _ _ _
  have hrecord : ((s.at t).taken p rest).mgmt = s.mgmt := State.setPort_mgmt _ _ _
  have hroutes : ((s.at t).taken p rest).switch.routes = s.switch.routes := State.setPort_routes _ _ _
  refine becomes_of_unrouted hheld hqueue ((State.fate_of_mode ?ok ?addressed ?management).trans
    (State.fateByMode_unrouted (by rwa [hrecord]) (by rwa [hroutes])))
  case ok => rwa [hnode]
  case addressed =>
    rw [hnode, hrecord]
    exact fun htarget => ⟨fun hkind => (hmgmt (.inr hkind)).1 htarget, fun hkind => (hmgmt (.inl hkind)).1 htarget, hmode⟩
  case management => exact fun hkind => .inl (hmgmt hkind.symm).2
end

section
/-!
PROOFS. Forwarding: the copies of a frame that the switch offers to other ports, in PASS_THROUGH (O7) and by a route entry.
-/

namespace Sys2Proof.Machine

/-! ## One copy offered (R26) -/

/-- An offer to a port leaves the other ports but B as they are, and B too where it congests nothing. -/
theorem State.offer_port {p p' : Port} {o : Origin} {f : CmsFrame} {s : State}
    (h : p' ≠ .B ∨ (s.port p).congests f = false) :
    (s.offer p o f).port p' = if p' = p then (s.port p).offered o f else s.port p' := by
  have hqueued : (s.enqueue p o f).port p' = if p' = p then (s.port p).offered o f else s.port p' :=
    State.port_setPort _ _ _ _
  unfold State.offer
  split
  · next hcongests =>
    rw [State.raiseCongested_port_ne (h.resolve_right (by simp [hcongests])), hqueued]
  · exact hqueued

theorem PortState.out_offered (o : Origin) (f : CmsFrame) (ps : PortState) :
    (ps.offered o f).out = ps.out.offered o f := by
  have hegress : ps.out.egress = ps.egress := rfl
  unfold PortState.offered
  rw [hegress]
  split
  · cases o <;> rfl
  · split
    · split <;> cases o <;> rfl
    · rfl

theorem PortState.congests_out (f : CmsFrame) (ps : PortState) : ps.out.congests f = ps.congests f := rfl

theorem Silent.congests {s w : State} (h : Silent s w) (p : Port) (f : CmsFrame) :
    (w.port p).congests f = (s.port p).congests f := by
  rw [← PortState.congests_out, h.out, PortState.congests_out]

/-! ## The copies of a frame (R17, R23) -/

/-- A copy offered to a port, if it is to have one. -/
def State.copyTo (b : Bool) (p : Port) (f : CmsFrame) (s : State) : State := if b then s.offer p .forwarded f else s

theorem State.forward_eq (out : PortSet) (f : CmsFrame) (s : State) :
    s.forward out f = ((s.copyTo out.B .B f).copyTo out.M .M f).copyTo out.T .T f := rfl

theorem State.copyTo_port {b : Bool} {p p' : Port} {f : CmsFrame} {s : State}
    (h : p' ≠ .B ∨ (s.port p).congests f = false) :
    (s.copyTo b p f).port p' = if b = true ∧ p' = p then (s.port p).offered .forwarded f else s.port p' := by
  unfold State.copyTo
  cases b
  · simp
  · simpa using State.offer_port h

theorem State.copyTo_port_ne {b : Bool} {p p' : Port} {f : CmsFrame} {s : State} (hB : p' ≠ .B) (hne : p' ≠ p) :
    (s.copyTo b p f).port p' = s.port p' := by
  rw [State.copyTo_port (.inl hB), if_neg (fun h => hne h.2)]

/-- The ports after the copies of a frame are offered: M and T in every case, B where no offer congests. -/
theorem State.forward_port {out : PortSet} {f : CmsFrame} {s : State} {p : Port}
    (h : p ≠ .B ∨ ∀ p', (s.port p').congests f = false) :
    (s.forward out f).port p = if out.has p then (s.port p).offered .forwarded f else s.port p := by
  have hMB : Port.M ≠ .B := nofun
  have hTB : Port.T ≠ .B := nofun
  have hTM : Port.T ≠ .M := nofun
  rw [State.forward_eq]
  cases p
  case B =>
    have hcalm := h.resolve_left (fun hB => hB rfl)
    have hM : ((s.copyTo out.B .B f).port .M).congests f = false := by
      rw [State.copyTo_port_ne hMB hMB, hcalm]
    have hT : (((s.copyTo out.B .B f).copyTo out.M .M f).port .T).congests f = false := by
      rw [State.copyTo_port_ne hTB hTM, State.copyTo_port_ne hTB hTB, hcalm]
    rw [State.copyTo_port (.inr hT), if_neg (fun h => hTB h.2.symm), State.copyTo_port (.inr hM),
      if_neg (fun h => hMB h.2.symm), State.copyTo_port (.inr (hcalm .B))]
    exact if_congr (and_iff_left rfl) rfl rfl
  case M =>
    rw [State.copyTo_port_ne hMB hTM.symm, State.copyTo_port (.inl hMB), State.copyTo_port_ne hMB hMB]
    exact if_congr (and_iff_left rfl) rfl rfl
  case T =>
    rw [State.copyTo_port (.inl hTB), State.copyTo_port_ne hTB hTM, State.copyTo_port_ne hTB hTB]
    exact if_congr (and_iff_left rfl) rfl rfl

theorem Calm.copyTo (b : Bool) (p : Port) (f : CmsFrame) (s : State) : Calm s (s.copyTo b p f) := by
  cases b
  · exact .refl s
  · exact .offer p .forwarded f s

theorem Calm.forward (out : PortSet) (f : CmsFrame) (s : State) : Calm s (s.forward out f) :=
  ((Calm.copyTo _ _ _ _).trans (.copyTo _ _ _ _)).trans (.copyTo _ _ _ _)

theorem State.copyTo_flag {e : Event} (h : e ≠ .portCongested) (b : Bool) (p : Port) (f : CmsFrame) (s : State) :
    (s.copyTo b p f).flag e = s.flag e := by
  cases b
  · rfl
  · exact State.offer_flag h p .forwarded f s

theorem State.forward_flag {e : Event} (h : e ≠ .portCongested) (out : PortSet) (f : CmsFrame) (s : State) :
    (s.forward out f).flag e = s.flag e := by
  rw [State.forward_eq, State.copyTo_flag h, State.copyTo_flag h, State.copyTo_flag h]

/-! ## A frame forwarded, from the state before it is taken to the state after -/

section
variable {s a u : State} {out : PortSet} {f : CmsFrame} (h : Silent s a) (hdue : a.due = s.due)
include h

/-- The copies are those of the state in which they are offered. -/
theorem Silent.forwarded
    (hu : ∀ p, p ≠ .B ∨ NothingDue s → (u.port p).out = ((a.forward out f).port p).out) : Forwarded s u out f := by
  intro p hp
  have hcalm : p ≠ .B ∨ ∀ p', (a.port p').congests f = false := by
    exact hp.imp_right fun ⟨_, hcalm⟩ p' => (h.congests p' f).trans (hcalm p')
  rw [hu p (hp.imp_right And.left), State.forward_port hcalm]
  split
  · rw [PortState.out_offered, PortState.out_offered, h.out]
  · exact h.out p

/-- The part's own frames and summaries at the end of the event leave the copies as they are. -/
theorem Silent.looksLike_forward {w w' : State} (hw : Silent (a.forward out f) w) (hquiet : w.quiet = w'.quiet) :
    LooksLike s w' w.flush [] := by
  refine ⟨?now, (State.quiet_flush w).trans hquiet, fun e he hes => ?flag⟩
  case now => rw [(Notified.flush w).now, hw.now, (Calm.forward out f a).now, h.now]
  case flag => rw [(Notified.flush w).flags e he hes, hw.flag, State.forward_flag he, h.flag]

include hdue
theorem Silent.forwarded_flush {w : State} (hw : Silent (a.forward out f) w) (hwdue : w.due = (a.forward out f).due) :
    Forwarded s w.flush out f := by
  refine h.forwarded fun p hp => ?_
  by_cases hB : p = .B
  · subst hB
    have hnothing : NothingDue w := (hwdue.trans ((Calm.forward out f a).due.trans hdue)).trans
      (hp.resolve_left (fun hB => hB rfl))
    rw [State.flush_of_nothingDue hnothing, hw.out]
  · rw [(Notified.flush w).port p hB, hw.out]
end

theorem State.quiet_countMalformed (p : Port) (s : State) : (s.countMalformed p).quiet = s.quiet.countMalformed p := by
  cases p <;> rfl

/-! ## Delivery (R6, R8, R168) -/

section
variable {s : State} {p : Port} {q : Received} {k : MsgKind}

theorem State.deliver_of_unowned (h : ∀ k, q.kind = some k → k.hasOwner = false) : s.deliver p q = .finished s := by
  unfold State.deliver
  split
  · rfl
  · next hk => exact if_pos (h _ hk)

theorem State.deliver_of_unhandable (hk : q.kind = some k) (howner : k.hasOwner = true)
    (hbad : handable k q.frame.data = false) : s.deliver p q = .finished (s.countMalformed p) := by
  simp only [State.deliver, hk, howner, hbad, Bool.true_eq_false, if_false, if_true]

/-- Assumption log 33: a request addressed to another part. -/
theorem State.deliver_of_request (hk : q.kind = some .mgmtRequest) (hok : handable .mgmtRequest q.frame.data = true) :
    s.deliver p q = .finished s := by
  have howner : MsgKind.mgmtRequest.hasOwner = true := rfl
  simp only [State.deliver, hk, howner, hok, Bool.true_eq_false, if_false, if_true]

theorem State.deliver_of_owned (hk : q.kind = some k) (howner : k.hasOwner = true) (hne : k ≠ .mgmtRequest)
    (hok : handable k q.frame.data = true) : s.deliver p q = .delivered k q s := by
  simp only [State.deliver, hk, howner, hok, hne, Bool.true_eq_false, if_false]

end

theorem MsgKind.hasOwner_of_isStatus {k : MsgKind} (h : k.isStatus = true) : k.hasOwner = true ∧ k ≠ .mgmtRequest := by
  revert h
  cases k <;> decide

/-! ## The three ends of a forwarded frame -/

section
variable {t : Nat} {p : Port} {s a w : State} {q : Received} {rest : List Received} {out : PortSet} {f : CmsFrame}
  (hheld : s.held = false) (hqueue : (s.port p).ingress = q :: rest) (ha : Silent (s.at t) a)
include hheld hqueue ha

/-- Forwarded, and delivered to no owner. -/
theorem becomes_of_forwarded (hdue : a.due = s.due)
    (hsort : ((s.at t).taken p rest).sort p q = .finished (a.forward out f)) (hquiet : a.quiet = w.quiet) :
    Becomes (.classifyFrame t p) s (s.at t) w [] fun u => Forwarded s u out f :=
  ⟨_, exec_classifyFrame_of_finished hheld hqueue hsort,
    ha.looksLike_forward (.refl _) ((Calm.forward out f a).quiet.trans hquiet),
    ha.forwarded_flush hdue (.refl _) rfl⟩

/-- Forwarded, and counted as malformed. -/
theorem becomes_of_unhandable (hdue : a.due = s.due)
    (hsort : ((s.at t).taken p rest).sort p q = .finished ((a.forward out f).countMalformed p))
    (hquiet : (a.countMalformed p).quiet = w.quiet) :
    Becomes (.classifyFrame t p) s (s.at t) w [] fun u => Forwarded s u out f := by
  refine ⟨_, exec_classifyFrame_of_finished hheld hqueue hsort, ha.looksLike_forward (.countMalformed p _) ?quiet,
    ha.forwarded_flush hdue (.countMalformed p _) (State.setPort_due _ _ _)⟩
  rw [State.quiet_countMalformed, (Calm.forward out f a).quiet, ← State.quiet_countMalformed, hquiet]

/-- Forwarded, and delivered to the owner of its kind. -/
theorem delivery_of_forwarded {k : MsgKind}
    (hsort : ((s.at t).taken p rest).sort p q = .delivered k q (a.forward out f)) (hquiet : a.quiet = w.quiet) :
    ∃ s2, s.delivery t p = some (k, q, s2) ∧ LooksLike (s.at t) w s2 [] ∧ Forwarded s s2 out f := by
  have hsorted := State.sorted_of_head (t := t) hheld hqueue
  rw [hsort] at hsorted
  have hcalm := Calm.forward out f a
  exact ⟨_, State.delivery_iff.mpr (State.sorted_iff.mp hsorted),
    ⟨hcalm.now.trans ha.now, hcalm.quiet.trans hquiet, fun e he _ => (State.forward_flag he out f a).trans (ha.flag e)⟩,
    ha.forwarded fun _ _ => rfl⟩
end

/-! ## PASS_THROUGH (R17) -/

/-- The ports other than one. -/
def PortSet.others (p : Port) : PortSet := { B := p != .B, M := p != .M, T := p != .T }

theorem State.sort_of_passThrough {s : State} {p : Port} {q : Received} (h : s.fate p q = .passThrough) :
    s.sort p q = if (q.kind.map MsgKind.isStatus).getD false then (s.forward (.others p) q.frame).deliver p q
      else .finished (s.forward (.others p) q.frame) := by
  rw [State.sort, h]
  rfl

/-- R17: the frames that PASS_THROUGH forwards. -/
theorem State.fate_of_passThrough {s : State} {p : Port} {q : Received} (hmode : s.mgmt.mode = .passThrough)
    (hok : q.isMalformed s.node = false) (htarget : q.frame.id.target.toNat ≠ s.node) :
    s.fate p q = .passThrough :=
  (State.fate_of_mode hok (fun h => absurd h htarget) (fun _ => .inr hmode)).trans (State.fateByMode_passThrough hmode)

theorem State.quiet_taken_at (t : Nat) (p : Port) (rest : List Received) (s : State) :
    ((s.at t).taken p rest).quiet = (s.taken p rest).quiet := by
  rw [State.taken_at, State.quiet_at]

theorem State.taken_due (p : Port) (rest : List Received) (s : State) : (s.taken p rest).due = s.due :=
  State.setPort_due _ _ _

theorem State.taken_node (p : Port) (rest : List Received) (s : State) : (s.taken p rest).node = s.node :=
  State.setPort_node _ _ _

theorem State.taken_mgmt (p : Port) (rest : List Received) (s : State) : (s.taken p rest).mgmt = s.mgmt :=
  State.setPort_mgmt _ _ _

end Sys2Proof.Machine

open Sys2Proof Sys2Proof.Machine

/-- Settles O7: the copies are those of `State.forward`, and the three clauses are the three ends of a forwarded frame. -/
theorem passThroughForwardsToTheOtherPorts : Obligations.PassThroughForwardsToTheOtherPorts := by
  unfold Obligations.PassThroughForwardsToTheOtherPorts
  intro t p s q rest hheld hmode hqueue hok htarget out taken
  have ha : Silent (s.at t) ((s.at t).taken p rest) := .taken p rest _
  have hdue : ((s.at t).taken p rest).due = s.due := State.taken_due p rest _
  have hfate : ((s.at t).taken p rest).fate p q = .passThrough :=
    State.fate_of_passThrough (by rwa [State.taken_mgmt]) (by rwa [State.taken_node]) (by rwa [State.taken_node])
  have hsort := State.sort_of_passThrough hfate
  refine ⟨fun hother => ?unobserved, fun k hk hstatus hgood => ?observed, fun k hk hstatus hbad => ?malformed⟩
  case unobserved =>
    refine becomes_of_forwarded hheld hqueue ha hdue (hsort.trans (if_neg ?_)) (State.quiet_taken_at t p rest s)
    cases hk : q.kind with
    | none => exact Bool.false_ne_true
    | some k => exact ne_true_of_eq_false (hother k hk)
  all_goals
    obtain ⟨howner, hne⟩ := MsgKind.hasOwner_of_isStatus hstatus
    rw [hk] at hsort
    replace hsort := hsort.trans (if_pos hstatus)
  case observed =>
    exact delivery_of_forwarded hheld hqueue ha (hsort.trans (State.deliver_of_owned hk howner hne hgood))
      (State.quiet_taken_at t p rest s)
  case malformed =>
    refine becomes_of_unhandable hheld hqueue ha hdue (hsort.trans (State.deliver_of_unhandable hk howner hbad)) ?_
    rw [State.quiet_countMalformed, State.quiet_taken_at, ← State.quiet_countMalformed, State.taken,
      State.countMalformed_setPort]
end

section
/-!
PROOFS. A frame that a route entry matches: counted, thinned or forwarded, and delivered (O8).
-/

namespace Sys2Proof.Machine

/-! ## Route entries (R18, R22, R23, R25) -/

theorem RouteEntry.thins_iff {e : RouteEntry} {arrival : Nat} : e.thins arrival = true ↔
    ∃ i v, e.interval = some i ∧ e.lastForward = some v ∧ arrival < v + i := by
  unfold RouteEntry.thins
  cases e.interval <;> cases e.lastForward <;> simp

/-- R25: a thinned frame advances the hit counter alone. -/
theorem RouteEntry.matched_of_thins {e : RouteEntry} {arrival : Nat} (h : e.thins arrival = true) (p : Port) :
    e.matched p arrival = { e with hits := bump e.hits } := by
  simp [RouteEntry.matched, RouteEntry.forwards, h]

/-- R22, R25: the entry of a frame that is not thinned. -/
theorem RouteEntry.matched_of_not_thins {e : RouteEntry} {arrival : Nat} (h : ¬ e.thins arrival = true) (p : Port) :
    e.matched p arrival = { e with
      hits := bump e.hits
      lastForward := if e.interval.isSome ∧ ((e.forward.less p).B ∨ (e.forward.less p).M ∨ (e.forward.less p).T)
        then some arrival else e.lastForward } := by
  simp [RouteEntry.matched, RouteEntry.forwards, h, or_assoc]

/-- The ports that an entry sends a frame to. -/
def RouteEntry.sendsTo (e : RouteEntry) (p : Port) (arrival : Nat) : PortSet :=
  if e.thins arrival then { B := false, M := false, T := false } else e.forward.less p

theorem State.routeBy_eq (e : RouteEntry) (p : Port) (q : Received) (s : State) : s.routeBy e p q =
    (s.setRoutes (s.switch.routes.map fun x => if x.sameKey e then x.matched p q.arrival else x)).forward
      (e.sendsTo p q.arrival) (e.copy q.frame) := by
  unfold State.routeBy RouteEntry.sendsTo
  dsimp only
  split <;> rfl

theorem RouteEntry.sameKey_symm {a b : RouteEntry} (h : a.sameKey b = false) : b.sameKey a = false := by
  rw [← Bool.not_eq_true, RouteEntry.sameKey_iff] at h ⊢
  exact fun hkey => h ⟨hkey.1.symm, hkey.2.symm⟩

/-- R19, R22: in a table of distinct keys the entry that matched is the only one that changes. -/
theorem map_matched_eq {es : List RouteEntry} {e e' : RouteEntry} {p : Port} {arrival : Nat}
    (hkeys : es.Pairwise (fun a b => a.sameKey b = false)) (he : e ∈ es) (he' : e.matched p arrival = e') :
    (es.map fun x => if x.sameKey e then x.matched p arrival else x)
      = es.map fun x => if x.kind = e.kind ∧ x.source = e.source then e' else x := by
  refine List.map_congr_left fun x hx => ?_
  refine if_ctx_congr RouteEntry.sameKey_iff (fun hsame => ?_) fun _ => rfl
  have hxe : x = e := by
    by_contra hne
    have hsymm : Std.Symm fun a b : RouteEntry => a.sameKey b = false := ⟨fun _ _ => RouteEntry.sameKey_symm⟩
    have hdistinct := hkeys.forall hx he hne
    rw [RouteEntry.sameKey_iff.mpr hsame] at hdistinct
    nomatch hdistinct
  rw [hxe, he']

theorem State.sort_of_routed {s : State} {p : Port} {q : Received} {e : RouteEntry} (h : s.fate p q = .routed e) :
    s.sort p q = if e.deliver then (s.routeBy e p q).deliver p q else .finished (s.routeBy e p q) := by
  rw [State.sort, h]

/-- A walk over the route table reaches no other part than the table. -/
theorem State.quiet_setRoutes_taken (t : Nat) (p : Port) (rest : List Received) (es : List RouteEntry) (s : State) :
    (((s.at t).taken p rest).setRoutes es).quiet
      = ((s.setRoutes es).setPort p { s.port p with ingress := rest }).quiet := by
  cases p <;> rfl

theorem State.countMalformed_setRoutes_taken (t : Nat) (p : Port) (rest : List Received) (es : List RouteEntry)
    (s : State) : ((((s.at t).taken p rest).setRoutes es).countMalformed p).quiet
      = ((s.setRoutes es).setPort p
          { s.port p with ingress := rest, malformed := bump (s.port p).malformed }).quiet := by
  cases p <;> rfl

end Sys2Proof.Machine

open Sys2Proof Sys2Proof.Machine

/-- Settles O8: the copies are those of `State.routeBy`, and the clauses are the ends of a forwarded frame. -/
theorem routeEntriesForwardThinAndDeliver : Obligations.RouteEntriesForwardThinAndDeliver := by
  unfold Obligations.RouteEntriesForwardThinAndDeliver
  intro t p s q rest e hheld hmode hqueue hok hmgmt hlookup hkeys thinned sends copy out e' hcase routed taken
  have hout : e.sendsTo p q.arrival = out ∧ e.matched p q.arrival = e' := by
    rcases hcase with ⟨hthins, rfl, rfl⟩ | ⟨hthins, rfl, rfl⟩
    · have hthins := RouteEntry.thins_iff.mpr hthins
      exact ⟨if_pos hthins, RouteEntry.matched_of_thins hthins p⟩
    · have hthins := fun h => hthins (RouteEntry.thins_iff.mp h)
      exact ⟨if_neg hthins, RouteEntry.matched_of_not_thins hthins p⟩
  obtain ⟨hsends, hmatched⟩ := hout
  obtain ⟨he, -⟩ := lookup_eq_some hlookup
  have hroutes : ((s.at t).taken p rest).switch.routes = s.switch.routes := State.setPort_routes _ _ _
  have hfate : ((s.at t).taken p rest).fate p q = .routed e := by
    refine (State.fate_of_mode (by rwa [State.taken_node]) ?addressed ?management).trans
      (State.fateByMode_routed (by rwa [State.taken_mgmt]) (by rwa [hroutes]))
    case addressed =>
      rw [State.taken_node, State.taken_mgmt]
      exact fun htarget => ⟨fun hkind => (hmgmt (.inr hkind)).1 htarget, fun hkind => (hmgmt (.inl hkind)).1 htarget, hmode⟩
    case management => exact fun hkind => .inl (hmgmt hkind.symm).2
  let a := ((s.at t).taken p rest).setRoutes
    (s.switch.routes.map fun x => if x.kind = e.kind ∧ x.source = e.source then e' else x)
  have hroute : ((s.at t).taken p rest).routeBy e p q = a.forward out copy := by
    rw [State.routeBy_eq, hroutes, map_matched_eq hkeys he hmatched, hsends]
    rfl
  have ha : Silent (s.at t) a := (Silent.taken p rest _).trans (.setRoutes _ _)
  have hdue : a.due = s.due := State.taken_due p rest _
  have hquiet : a.quiet = taken.quiet := State.quiet_setRoutes_taken t p rest _ s
  have hsort := State.sort_of_routed hfate
  rw [hroute] at hsort
  refine ⟨fun hunowned => ?undelivered, fun k hdeliver hk howner hne hgood => ?delivered,
    fun k hdeliver hk howner hbad => ?malformed⟩
  case undelivered =>
    refine becomes_of_forwarded hheld hqueue ha hdue ?_ hquiet
    rw [hsort]
    split
    · next hdeliver =>
      rcases hunowned with hno | hno | ⟨hk, hgood⟩
      · exact absurd hdeliver (ne_true_of_eq_false hno)
      · exact State.deliver_of_unowned hno
      · exact State.deliver_of_request hk hgood
    · rfl
  all_goals replace hsort := hsort.trans (if_pos hdeliver)
  case delivered =>
    exact delivery_of_forwarded hheld hqueue ha (hsort.trans (State.deliver_of_owned hk howner hne hgood)) hquiet
  case malformed =>
    exact becomes_of_unhandable hheld hqueue ha hdue (hsort.trans (State.deliver_of_unhandable hk howner hbad))
      (State.countMalformed_setRoutes_taken t p rest _ s)
end

section
/-!
PROOFS. The egress queues: admission (R26), PORT_CONGESTED (R28, R163), and the frame that a segment takes (R27); O10.
-/

namespace Sys2Proof.Machine

/-! ## Admission of one frame (R26, R28) -/

theorem CmsFrame.isControl_iff {f : CmsFrame} : f.isControl = true ↔ f.id.cls.toNat ≤ 3 := decide_eq_true_iff

theorem CmsFrame.isControl_eq_false {f : CmsFrame} : f.isControl = false ↔ 4 ≤ f.id.cls.toNat := by
  rw [← Bool.not_eq_true, CmsFrame.isControl_iff, Nat.not_le]
  rfl

theorem dropNewestRoutine_of_control {fs : List CmsFrame} (h : ∀ f ∈ fs, f.isControl = true) :
    dropNewestRoutine fs = none := by
  induction fs with
  | nil => rfl
  | cons f fs ih =>
    obtain ⟨hf, hfs⟩ := List.forall_mem_cons.mp h
    simp [dropNewestRoutine, ih hfs, hf]

/-- The newest routine frame is the one that no routine frame follows. -/
theorem dropNewestRoutine_eq_some {older newer : List CmsFrame} {x : CmsFrame} (hx : x.isControl = false)
    (hnewer : ∀ y ∈ newer, y.isControl = true) :
    dropNewestRoutine (older ++ x :: newer) = some (older ++ newer) :=
  dropNewestRoutine_append (by simp [dropNewestRoutine, dropNewestRoutine_of_control hnewer, hx])

section
variable {o : Origin} {f : CmsFrame} {ps : PortState}

theorem PortState.offered_of_room (h : ps.egress.length < 48) :
    ps.offered o f = { ps.countIn o with
      egress := ps.egress ++ [f], armed := if ps.egress.length = 35 then false else ps.armed } := by
  rw [PortState.offered, if_pos (show ps.egress.length < egressMax from h)]
  by_cases hdepth : ps.egress.length = 35
  · simp [hdepth]
  · simp [hdepth]

theorem PortState.congests_of_room (h : ps.egress.length < 48) :
    ps.congests f = (ps.armed && decide (ps.egress.length = 35)) := by
  rw [PortState.congests, if_pos (show ps.egress.length < egressMax from h)]
  simp

theorem egressMax_le {n : Nat} (h : n = 48) : ¬ n < egressMax := by
  rw [h]
  exact Nat.lt_irrefl 48

theorem PortState.offered_of_displaced {older newer : List CmsFrame} {x : CmsFrame} (hfull : ps.egress.length = 48)
    (hf : f.isControl = true) (hegress : ps.egress = older ++ x :: newer) (hx : x.isControl = false)
    (hnewer : ∀ y ∈ newer, y.isControl = true) :
    ps.offered o f = { ps.countIn o with
        egress := older ++ newer ++ [f], egressDropped := bump ps.egressDropped }
      ∧ ps.congests f = false := by
  have hdrop : dropNewestRoutine ps.egress = some (older ++ newer) := hegress ▸ dropNewestRoutine_eq_some hx hnewer
  simp [PortState.offered, PortState.congests, egressMax_le hfull, hf, hdrop]

theorem PortState.offered_of_overflow (hfull : ps.egress.length = 48) (hf : f.isControl = true)
    (hall : ∀ y ∈ ps.egress, y.isControl = true) :
    ps.offered o f = { ps with controlOverflow := bump ps.controlOverflow } ∧ ps.congests f = true := by
  simp [PortState.offered, PortState.congests, egressMax_le hfull, hf, dropNewestRoutine_of_control hall]

theorem PortState.offered_of_routine (hfull : ps.egress.length = 48) (hf : f.isControl = false) :
    ps.offered o f = { ps with egressDropped := bump ps.egressDropped } ∧ ps.congests f = false := by
  simp [PortState.offered, PortState.congests, egressMax_le hfull, hf]

end

/-! ## PORT_CONGESTED raised by an offer (R28, R163) -/

theorem EventFlag.sends_eq_false {fl : EventFlag} : fl.sends = false ↔ fl.isSet = true ∨ fl.masked = true := by
  cases hset : fl.isSet <;> cases hmask : fl.masked <;> simp [EventFlag.sends, hset, hmask]

theorem EventFlag.raise_of_set {fl : EventFlag} (h : fl.isSet = true) (d : Option Nat) :
    fl.raise d = { fl with count := bump fl.count } := if_pos h

theorem EventFlag.raise_of_clear {fl : EventFlag} (h : fl.isSet = false) (d : Option Nat) :
    fl.raise d = { fl with isSet := true, detail := d } := if_neg (ne_true_of_eq_false h)

/-- The ATTENTION frame of PORT_CONGESTED (11.6). -/
def State.congestedAttention (p : Port) (s : State) : CmsFrame :=
  s.frameOf .attention 0 (attentionData .portCongested (some (portCode p)))

section
variable {p : Port} {s : State}

theorem State.raiseCongested_of_quiet (h : (s.flag .portCongested).sends = false) :
    s.raiseCongested p = s.latch .portCongested (some (portCode p)) := by
  rw [State.raiseCongested]
  exact if_neg (ne_true_of_eq_false h)

/-- The flag is set, its ATTENTION frame goes to B, and an overflow of B by that frame counts as an occurrence. -/
theorem State.raiseCongested_of_sends (hset : (s.flag .portCongested).isSet = false)
    (hmask : (s.flag .portCongested).masked = false) :
    (s.raiseCongested p).flag .portCongested = { s.flag .portCongested with
        isSet := true, detail := some (portCode p)
        count := if (s.port .B).congests (s.congestedAttention p) then bump (s.flag .portCongested).count
          else (s.flag .portCongested).count }
      ∧ (s.raiseCongested p).port .B = (s.port .B).offered .originated (s.congestedAttention p)
      ∧ ∀ p', p' ≠ .B → (s.raiseCongested p).port p' = s.port p' := by
  have hsends : (s.flag .portCongested).sends = true := by simp [EventFlag.sends, hset, hmask]
  refine ⟨?flag, ?port, fun p' hp' => State.raiseCongested_port_ne hp' s⟩
  all_goals
    simp only [State.raiseCongested, hsends, if_true]
    have hframe : (s.latch .portCongested (some (portCode p))).frameOf .attention 0
        (attentionData .portCongested (some (portCode p))) = s.congestedAttention p := rfl
    rw [hframe, State.latch_port]
  case flag =>
    split
    · rw [State.latch_flag_self, State.enqueue_flag, State.latch_flag_self, EventFlag.raise_of_clear hset]
      rfl
    · rw [State.enqueue_flag, State.latch_flag_self, EventFlag.raise_of_clear hset]
  case port =>
    split
    · rw [State.latch_port, State.enqueue_port_self, State.latch_port]
    · rw [State.enqueue_port_self, State.latch_port]
end

/-- PORT_CONGESTED once set stays as it is but for its occurrences. -/
def CongestedStays (s t : State) : Prop :=
  (s.flag .portCongested).isSet = true →
    (t.flag .portCongested).isSet = true ∧ (t.flag .portCongested).detail = (s.flag .portCongested).detail

theorem CongestedStays.of_eq {s t : State} (h : t.flag .portCongested = s.flag .portCongested) : CongestedStays s t := by
  intro hset
  rw [h]
  exact ⟨hset, rfl⟩

theorem CongestedStays.stable : Stable CongestedStays where
  refl s := .of_eq rfl
  trans h g hset := by
    obtain ⟨ht, hdetail⟩ := h hset
    obtain ⟨hu, hdetail'⟩ := g ht
    exact ⟨hu, hdetail'.trans hdetail⟩
  enqueue p f s := .of_eq (State.enqueue_flag p _ f _ s)
  latch e d s := by
    by_cases he : e = .portCongested
    · intro hset
      rw [he, State.latch_flag_self, EventFlag.raise_of_set hset]
      exact ⟨hset, rfl⟩
    · exact .of_eq (State.latch_flag_ne (fun h => he h.symm) d s)
  write _ hmgmt := .of_eq (by rw [State.flag, State.flag, hmgmt])

/-- PORT_CONGESTED raised for a port: set, with that port as the detail unless it was set before. -/
def CongestedBy (p : Port) (s t : State) : Prop :=
  (t.flag .portCongested).isSet = true ∧ (t.flag .portCongested).detail =
    if (s.flag .portCongested).isSet = true then (s.flag .portCongested).detail else some (portCode p)

theorem CongestedBy.stays {p : Port} {s t u : State} (h : CongestedBy p s t) (g : CongestedStays t u) :
    CongestedBy p s u := by
  obtain ⟨hset, hdetail⟩ := h
  obtain ⟨hset', hdetail'⟩ := g hset
  exact ⟨hset', hdetail'.trans hdetail⟩

theorem CongestedBy.congr {p : Port} {s s' t : State} (h : CongestedBy p s t)
    (hflag : s.flag .portCongested = s'.flag .portCongested) : CongestedBy p s' t := by
  rwa [CongestedBy, ← hflag]

theorem State.raiseCongested_congestedBy (p : Port) (s : State) : CongestedBy p s (s.raiseCongested p) := by
  cases hset : (s.flag .portCongested).isSet with
  | true =>
    obtain ⟨hset', hdetail⟩ := CongestedStays.stable.raiseCongested p s hset
    exact ⟨hset', hdetail.trans (if_pos hset).symm⟩
  | false =>
    have hdetail : some (portCode p) = if (s.flag .portCongested).isSet = true then (s.flag .portCongested).detail
        else some (portCode p) := (if_neg (ne_true_of_eq_false hset)).symm
    cases hmask : (s.flag .portCongested).masked with
    | true =>
      rw [State.raiseCongested_of_quiet (EventFlag.sends_eq_false.mpr (.inr hmask)), CongestedBy, State.latch_flag_self,
        EventFlag.raise_of_clear hset]
      exact ⟨rfl, hdetail⟩
    | false =>
      obtain ⟨hflag, -⟩ := State.raiseCongested_of_sends (p := p) hset hmask
      rw [CongestedBy, hflag]
      exact ⟨rfl, hdetail⟩

section
variable {p : Port} {o : Origin} {f : CmsFrame} {s : State}

theorem State.offer_of_congests (h : (s.port p).congests f = true) :
    s.offer p o f = (s.enqueue p o f).raiseCongested p := if_pos h

theorem State.offer_of_calm (h : (s.port p).congests f = false) : s.offer p o f = s.enqueue p o f :=
  if_neg (ne_true_of_eq_false h)

theorem State.offer_congestedBy (h : (s.port p).congests f = true) : CongestedBy p s (s.offer p o f) := by
  rw [State.offer_of_congests h]
  exact (State.raiseCongested_congestedBy p _).congr (State.enqueue_flag p o f _ s)

theorem CongestedStays.offer (p : Port) (o : Origin) (f : CmsFrame) (s : State) : CongestedStays s (s.offer p o f) := by
  have hqueued : CongestedStays s (s.enqueue p o f) := .of_eq (State.enqueue_flag p o f _ s)
  exact relation_cond (CongestedStays.stable.trans hqueued (CongestedStays.stable.raiseCongested p _)) hqueued
end

/-! ## PORT_CONGESTED raised by a copy (R17, R28) -/

theorem CongestedStays.copyTo (b : Bool) (p : Port) (f : CmsFrame) (s : State) : CongestedStays s (s.copyTo b p f) := by
  cases b
  · exact .of_eq rfl
  · exact .offer p .forwarded f s

theorem State.copyTo_flag_of_calm {b : Bool} {p : Port} {f : CmsFrame} {s : State}
    (h : b = true → (s.port p).congests f = false) : (s.copyTo b p f).flag .portCongested = s.flag .portCongested := by
  cases b
  · rfl
  · exact (congrArg (fun u => u.flag .portCongested) (State.offer_of_calm (h rfl))).trans (State.enqueue_flag _ _ _ _ _)

theorem State.copyTo_congestedBy {p : Port} {f : CmsFrame} {s : State} (h : (s.port p).congests f = true) :
    CongestedBy p s (s.copyTo true p f) := State.offer_congestedBy h

/-- Of the copies of a frame one alone congests its port: the flag is raised for that port. -/
theorem State.forward_congestedBy {out : PortSet} {f : CmsFrame} {s : State} {p : Port} (hp : out.has p = true)
    (hcongests : (s.port p).congests f = true)
    (hothers : ∀ p', p' ≠ p → out.has p' = true → (s.port p').congests f = false) :
    CongestedBy p s (s.forward out f) := by
  have hMB : Port.M ≠ .B := nofun
  have hTB : Port.T ≠ .B := nofun
  have hTM : Port.T ≠ .M := nofun
  have hM : ((s.copyTo out.B .B f).port .M) = s.port .M := State.copyTo_port_ne hMB hMB
  have hT : (((s.copyTo out.B .B f).copyTo out.M .M f).port .T) = s.port .T :=
    (State.copyTo_port_ne hTB hTM).trans (State.copyTo_port_ne hTB hTB)
  rw [State.forward_eq]
  cases p
  case B =>
    have hout : out.B = true := hp
    rw [hout]
    exact ((State.copyTo_congestedBy hcongests).stays (.copyTo _ _ _ _)).stays (.copyTo _ _ _ _)
  case M =>
    have hout : out.M = true := hp
    have hflag := State.copyTo_flag_of_calm (hothers .B hMB.symm)
    have hraised := (State.copyTo_congestedBy (hM ▸ hcongests)).congr hflag
    rw [hout]
    exact hraised.stays (.copyTo _ _ _ _)
  case T =>
    have hout : out.T = true := hp
    have hflag := State.copyTo_flag_of_calm (hothers .B hTB.symm)
    have hflag' := State.copyTo_flag_of_calm (b := out.M) (fun h => hM.symm ▸ hothers .M hTM.symm h)
    rw [hout]
    exact (State.copyTo_congestedBy (hT ▸ hcongests)).congr (hflag'.trans hflag)

theorem PortSet.others_has (p p' : Port) : (PortSet.others p).has p' = (p' != p) := by
  cases p <;> cases p' <;> rfl

/-- The ATTENTION frame behind a frame queued, with its fields. -/
theorem State.congestedAttention_enqueue (p : Port) (o : Origin) (f : CmsFrame) (s : State) :
    (s.enqueue p o f).congestedAttention p =
      { id := { cls := 2#3, kind := 0x84#8, source := BitVec.ofNat 7 s.node, target := 0#7, last := true, part := 0#3 }
        data := [0#8, BitVec.ofNat 8 (portCode p)] } := by
  rw [State.congestedAttention, State.frameOf, State.enqueue_node]
  rfl

theorem State.enqueue_port_bridge (p : Port) (o : Origin) (f : CmsFrame) (s : State) :
    (s.enqueue p o f).port .B = if p = .B then (s.port .B).offered o f else s.port .B := by
  cases p <;> rfl

/-! ## The frame a segment takes (R27, R28) -/

theorem leastOf_eq_none {xs : List Nat} (h : leastOf xs = none) : xs = [] := by
  cases xs with
  | nil => rfl
  | cons x xs => unfold leastOf at h; split at h <;> nomatch h

theorem leastOf_spec {xs : List Nat} {x : Nat} (h : leastOf xs = some x) : x ∈ xs ∧ ∀ y ∈ xs, x ≤ y := by
  induction xs generalizing x with
  | nil => nomatch h
  | cons z zs ih =>
    unfold leastOf at h
    split at h
    · next hnone =>
      obtain rfl := Option.some.inj h
      simp [leastOf_eq_none hnone]
    · next y hsome =>
      obtain rfl := Option.some.inj h
      obtain ⟨hy, hle⟩ := ih hsome
      refine ⟨?_, List.forall_mem_cons.mpr ⟨Nat.min_le_left z y, fun w hw => (Nat.min_le_right z y).trans (hle w hw)⟩⟩
      rcases Nat.le_total z y with hzy | hyz
      · rw [Nat.min_eq_left hzy]
        exact List.mem_cons_self
      · rw [Nat.min_eq_right hyz]
        exact List.mem_cons_of_mem _ hy

section
variable {older newer : List CmsFrame} {f : CmsFrame} (holder : ∀ x ∈ older, f.id.cls.toNat < x.id.cls.toNat)
include holder

theorem lowestClass_eq (hnewer : ∀ x ∈ newer, f.id.cls.toNat ≤ x.id.cls.toNat) :
    lowestClass (older ++ f :: newer) = f.id.cls.toNat := by
  have hleast : ∀ x ∈ older ++ f :: newer, f.id.cls.toNat ≤ x.id.cls.toNat :=
    List.forall_mem_append.mpr ⟨fun x hx => (holder x hx).le, List.forall_mem_cons.mpr ⟨le_rfl, hnewer⟩⟩
  have hmem : f.id.cls.toNat ∈ (older ++ f :: newer).map fun x => x.id.cls.toNat :=
    List.mem_map_of_mem (by simp)
  unfold lowestClass
  cases hleastOf : leastOf ((older ++ f :: newer).map fun x => x.id.cls.toNat) with
  | none => exact absurd (leastOf_eq_none hleastOf) (List.ne_nil_of_mem hmem)
  | some c =>
    obtain ⟨hc, hle⟩ := leastOf_spec hleastOf
    obtain ⟨x, hx, rfl⟩ := List.mem_map.mp hc
    exact Nat.le_antisymm (hle _ hmem) (hleast x hx)

theorem takeOldest_eq : takeOldest f.id.cls.toNat (older ++ f :: newer) = older ++ newer := by
  induction older with
  | nil => exact if_pos rfl
  | cons x older ih =>
    obtain ⟨hx, hrest⟩ := List.forall_mem_cons.mp holder
    rw [List.cons_append, takeOldest, if_neg hx.ne', ih hrest, List.cons_append]

theorem State.sendFrame_eq {s : State} {p : Port} (hegress : (s.port p).egress = older ++ f :: newer)
    (hnewer : ∀ x ∈ newer, f.id.cls.toNat ≤ x.id.cls.toNat) :
    s.sendFrame p = s.setPort p { s.port p with
      egress := older ++ newer
      armed := if older.length + newer.length ≤ 24 then true else (s.port p).armed } := by
  have hne : (s.port p).egress.isEmpty = false := by simp [hegress]
  have harmed : ((s.port p).armed || decide ((older ++ newer).length ≤ 24))
      = if older.length + newer.length ≤ 24 then true else (s.port p).armed := by
    rw [List.length_append]
    split
    · next h => simp [h]
    · next h => simp [h]
  unfold State.sendFrame
  simp only [hne, Bool.false_eq_true, if_false]
  rw [hegress, lowestClass_eq holder hnewer, takeOldest_eq holder, harmed]
end

end Sys2Proof.Machine

open Sys2Proof Sys2Proof.Machine

/-- Settles O10: admission by the depth of the queue, PORT_CONGESTED by `State.offer` and by the copies of a frame, and the
frame that a segment takes by `State.sendFrame`. -/
theorem egressQueuesDisplaceAndSendByClass : Obligations.EgressQueuesDisplaceAndSendByClass := by
  unfold Obligations.EgressQueuesDisplaceAndSendByClass
  refine ⟨fun o f ps => ⟨?room, ?displaced, ?overflow, ?routine⟩, fun s p o f => ?offered,
    fun t p p' s q rest hheld hmode hqueue hok htarget hother hne hcongests hcalm => ?copied,
    fun t p s older newer f hheld hdue hegress holder hnewer => ?sent⟩
  case room => exact fun h => ⟨by rw [PortState.offered_of_room h]; cases o <;> rfl, PortState.congests_of_room h⟩
  case displaced =>
    intro older x newer hfull hf hegress hx hnewer
    obtain ⟨hoffered, hcongests⟩ := PortState.offered_of_displaced (o := o) hfull (CmsFrame.isControl_iff.mpr hf) hegress
      (CmsFrame.isControl_eq_false.mpr hx) fun y hy => CmsFrame.isControl_iff.mpr (hnewer y hy)
    exact ⟨by rw [hoffered]; cases o <;> rfl, hcongests⟩
  case overflow =>
    exact fun hfull hf hall => PortState.offered_of_overflow hfull (CmsFrame.isControl_iff.mpr hf)
      fun y hy => CmsFrame.isControl_iff.mpr (hall y hy)
  case routine => exact fun hfull hf => PortState.offered_of_routine hfull (CmsFrame.isControl_eq_false.mpr hf)
  case offered =>
    have hcalm := Calm.offer p o f s
    refine ⟨hcalm.quiet, fun e he _ => State.offer_flag he p o f s, fun hcongests => ?calm, fun hcongests hquiet => ?noted,
      fun hcongests hset hmask => ?told⟩
    case calm =>
      rw [State.offer_of_calm hcongests]
      exact ⟨State.enqueue_flag p o f _ s, State.enqueue_port_self p o f s, fun p' hp' => State.enqueue_port_ne hp' o f s⟩
    all_goals
      have hflag := State.enqueue_flag p o f .portCongested s
      rw [State.offer_of_congests hcongests]
    case noted =>
      have hsends : ((s.enqueue p o f).flag .portCongested).sends = false := by
        rw [hflag]
        exact EventFlag.sends_eq_false.mpr hquiet
      rw [State.raiseCongested_of_quiet hsends]
      refine ⟨(State.latch_flag_self _ _ _).trans (congrArg _ hflag), State.enqueue_port_self p o f s, fun p' hp' => ?_⟩
      exact State.enqueue_port_ne hp' o f s
    case told =>
      obtain ⟨hraised, hbridge, hports⟩ := State.raiseCongested_of_sends (p := p) (s := s.enqueue p o f)
        (by rw [hflag]; exact hset) (by rw [hflag]; exact hmask)
      rw [State.congestedAttention_enqueue, State.enqueue_port_bridge] at hraised hbridge
      rw [hflag] at hraised
      refine ⟨hraised, hbridge, fun hp => ?_, fun p' hp' hne => ?_⟩
      · rw [hports p hp, State.enqueue_port_self]
      · rw [hports p' hp', State.enqueue_port_ne hne]
  case copied =>
    have htaken : Silent (s.at t) ((s.at t).taken p rest) := .taken p rest _
    have hfate : ((s.at t).taken p rest).fate p q = .passThrough :=
      State.fate_of_passThrough (by rwa [State.taken_mgmt]) (by rwa [State.taken_node]) (by rwa [State.taken_node])
    have hunobserved : ¬ (q.kind.map MsgKind.isStatus).getD false = true := by
      cases hk : q.kind with
      | none => exact Bool.false_ne_true
      | some k => exact ne_true_of_eq_false (hother k hk)
    have hport : ∀ p'', (((s.at t).taken p rest).port p'').congests q.frame = (s.port p'').congests q.frame :=
      fun p'' => htaken.congests p'' q.frame
    have hcopies : CongestedBy p' ((s.at t).taken p rest) (((s.at t).taken p rest).forward (.others p) q.frame) := by
      refine State.forward_congestedBy ?has (by rw [hport, hcongests]) fun p'' hp'' hout => ?others
      case has => rw [PortSet.others_has, bne_iff_ne]; exact hne
      case others =>
        rw [PortSet.others_has, bne_iff_ne] at hout
        rw [hport, hcalm p'' hout hp'']
    exact ⟨_, exec_classifyFrame_of_finished hheld hqueue ((State.sort_of_passThrough hfate).trans (if_neg hunobserved)),
      (hcopies.stays (CongestedStays.stable.flush _)).congr (htaken.flag .portCongested)⟩
  case sent =>
    have hexec : exec (.segmentTakesFrame t p) s = .next ((s.at t).sendFrame p).flush := event_of_awake hheld
    rw [hexec, State.sendFrame_eq (s := s.at t) holder (by rw [State.port_at, hegress]) hnewer,
      State.flush_of_nothingDue (by rw [NothingDue, State.setPort_due]; exact hdue), State.port_at]
end

section
/-!
PROOFS. CLEAR_TABLE of the tables whose clearing queues nothing (R20, R32, R49, R81, R93, R98, R132), and its refusals; among
them the lane table, after which every actuator is evaluated for a lane that is not there.
-/

namespace Sys2Proof.Machine

/-! ## Walks over a table -/

/-- What every step of a walk settles for its own place, and leaves settled for the others, holds of every place walked. -/
theorem forEach_settles {ι : Type} {Q : ι → State → Prop} {f : ι → State → State} (own : ∀ i s, Q i (f i s))
    (keep : ∀ i j s, Q j s → Q j (f i s)) {is : List ι} {j : ι} (hj : j ∈ is) (s : State) : Q j (forEach is f s) := by
  have kept : ∀ (is : List ι) (s : State), Q j s → Q j (forEach is f s) := by
    intro is
    induction is with
    | nil => exact fun _ h => h
    | cons i is ih => exact fun s h => ih (f i s) (keep i j s h)
  induction is generalizing s with
  | nil => nomatch hj
  | cons i is ih =>
    rcases List.mem_cons.mp hj with rfl | hj
    · exact kept is _ (own j s)
    · exact ih hj (f i s)

theorem forAll_settles {n : Nat} {Q : Fin n → State → Prop} {f : Fin n → State → State} (own : ∀ i s, Q i (f i s))
    (keep : ∀ i j s, Q j s → Q j (f i s)) (j : Fin n) (s : State) : Q j (forAll n f s) :=
  forEach_settles own keep (mem_indices j) s

/-- What every step of a walk keeps the walk keeps. -/
theorem forAll_keeps {n : Nat} {P : State → Prop} {f : Fin n → State → State} (h : ∀ i s, P s → P (f i s)) {s : State}
    (hs : P s) : P (forAll n f s) := by
  have walk : ∀ (is : List (Fin n)) (s : State), P s → P (forEach is f s) := by
    intro is
    induction is with
    | nil => exact fun _ h => h
    | cons i is ih => exact fun s hs => ih (f i s) (h i s hs)
  exact walk _ s hs

theorem any_indices_iff {n : Nat} {p : Fin n → Bool} : (indices n).any p = true ↔ ∃ i, p i = true := by
  rw [List.any_eq_true]
  exact ⟨fun ⟨i, _, h⟩ => ⟨i, h⟩, fun ⟨i, h⟩ => ⟨i, mem_indices i, h⟩⟩

theorem any_indices_eq_false {n : Nat} {p : Fin n → Bool} : (indices n).any p = false ↔ ∀ i, p i = false := by
  rw [← Bool.not_eq_true, any_indices_iff, not_exists]
  exact forall_congr' fun i => Bool.not_eq_true _ ▸ Iff.rfl

/-! ## Writes beside the switch, the flags and the clock -/

theorem Silent.of_eq {s t : State} (hnow : t.now = s.now) (hnode : t.node = s.node) (hswitch : t.switch = s.switch)
    (hflags : t.mgmt.flags = s.mgmt.flags) : Silent s t :=
  ⟨hnow, hnode, fun e => by rw [State.flag, State.flag, hflags], fun p => by rw [State.port_congr hswitch]⟩

/-! ## Evaluation of the actuators (R100) -/

/-- R100, R101: the column and the target that evaluation gives a loaded actuator. -/
def State.aim (a : Fin 8) (s : State) : Option (Dir × Int) :=
  (s.steering.rows.get a).map fun row => (s.columnOf row.lane,
    actTarget s.steering.helm (s.gain a (s.columnOf row.lane)) row.fullScale row.limit)

/-- A record with the column and target of an evaluation. -/
def ActRec.aimed (r : ActRec) : Option (Dir × Int) → ActRec
  | none => r
  | some (column, target) => { r with column := column, target := target }

theorem ActRec.aimed_aimed (x : Option (Dir × Int)) (r : ActRec) : (r.aimed x).aimed x = r.aimed x := by
  cases x <;> rfl

theorem State.evaluate_of_none {a : Fin 8} {s : State} (h : s.steering.rows.get a = none) :
    s.evaluate a = s ∧ s.aim a = none := by
  simp only [State.evaluate, State.aim, h, Option.map_none, and_self]

theorem State.evaluate_of_some {a : Fin 8} {s : State} {row : ActRow} (h : s.steering.rows.get a = some row) :
    s.evaluate a = s.putAct a ((s.act a).aimed (s.aim a)) := by
  simp only [State.evaluate, State.aim, h, Option.map_some]
  rfl

/-- The quiet part less the records of lanes and actuators. -/
def State.undriven (s : State) : State :=
  { s.quiet with
    lanes := { s.lanes with recs := State.reset.lanes.recs }
    steering := { s.quiet.steering with recs := State.reset.steering.recs } }

/-- States alike but for these records and for what is due have the same quiet part when the records are the same, the
lanes' summary periods aside. -/
theorem State.quiet_eq_of_undriven {s t : State} (h : t.undriven = s.undriven)
    (hlanes : ∀ l, (t.lane l).core = (s.lane l).core) (hacts : ∀ a, t.act a = s.act a) : t.quiet = s.quiet := by
  have whole : ∀ x : State, x.quiet = { x.undriven with
      lanes := { x.undriven.lanes with recs := x.lanes.recs.map LaneRec.core }
      steering := { x.undriven.steering with recs := x.steering.recs } } := fun _ => rfl
  have hrecs : t.lanes.recs.map LaneRec.core = s.lanes.recs.map LaneRec.core :=
    Tab.ext_get fun l => by rw [Tab.get_map, Tab.get_map]; exact hlanes l
  have hsteering : t.steering.recs = s.steering.recs := Tab.ext_get hacts
  rw [whole t, whole s, h, hrecs, hsteering]

/-- The relation between a state and the state after actuators have been evaluated and lane records written that no actuator
reads. -/
structure Swept (s t : State) : Prop where
  silent   : Silent s t
  undriven : t.undriven = s.undriven
  aim      : ∀ a, t.aim a = s.aim a
  act      : ∀ a, (t.act a).aimed (s.aim a) = (s.act a).aimed (s.aim a)

theorem Swept.refl (s : State) : Swept s s := ⟨.refl s, rfl, fun _ => rfl, fun _ => rfl⟩

theorem Swept.trans {s t u : State} (h : Swept s t) (g : Swept t u) : Swept s u where
  silent := h.silent.trans g.silent
  undriven := g.undriven.trans h.undriven
  aim a := (g.aim a).trans (h.aim a)
  act a := by rw [← h.act a, ← h.aim a, g.act a]

theorem Swept.dueLane (l : Fin 4) (s : State) : Swept s (s.dueLane l) :=
  ⟨.of_eq rfl rfl rfl rfl, rfl, fun _ => rfl, fun _ => rfl⟩

theorem State.act_putAct (a b : Fin 8) (r : ActRec) (s : State) :
    (s.putAct a r).act b = if b = a then r else s.act b := by
  unfold State.putAct
  dsimp only
  split
  · exact Tab.get_set _ _ _ _
  · exact Tab.get_set _ _ _ _

theorem Swept.putAct {a : Fin 8} {s : State} : Swept s (s.putAct a ((s.act a).aimed (s.aim a))) := by
  have hact : ∀ b, ((s.putAct a ((s.act a).aimed (s.aim a))).act b).aimed (s.aim b) = (s.act b).aimed (s.aim b) := by
    intro b
    rw [State.act_putAct]
    split
    · next hb => rw [hb, ActRec.aimed_aimed]
    · rfl
  refine ⟨?silent, ?undriven, fun b => ?aim, hact⟩
  all_goals
    unfold State.putAct
    dsimp only
    split
  case silent.isTrue | silent.isFalse => exact .of_eq rfl rfl rfl rfl
  all_goals rfl

theorem Swept.evaluate (a : Fin 8) (s : State) : Swept s (s.evaluate a) := by
  cases hrow : s.steering.rows.get a with
  | none => rw [(State.evaluate_of_none hrow).1]; exact .refl s
  | some row => rw [State.evaluate_of_some hrow]; exact .putAct

theorem Swept.forAll {n : Nat} {f : Fin n → State → State} (h : ∀ i s, Swept s (f i s)) (s : State) :
    Swept s (forAll n f s) :=
  forAll_keeps (P := Swept s) (fun i t hs => hs.trans (h i t)) (.refl s)

theorem Swept.evaluateAll (s : State) : Swept s s.evaluateAll := .forAll .evaluate s

theorem Swept.evaluateLane (l : Fin 4) (s : State) : Swept s (s.evaluateLane l) := by
  refine .forAll (fun a t => ?_) s
  split
  · exact relation_cond (.evaluate a t) (.refl t)
  · exact .refl t

/-- Every actuator evaluated has the column and target of its evaluation. -/
theorem State.act_evaluateAll (a : Fin 8) (s : State) : s.evaluateAll.act a = (s.act a).aimed (s.aim a) := by
  have settled : (s.evaluateAll.act a).aimed (s.evaluateAll.aim a) = s.evaluateAll.act a := by
    refine forAll_settles (Q := fun a s => (s.act a).aimed (s.aim a) = s.act a) (fun b t => ?own) (fun b c t ht => ?keep) a s
    case own =>
      cases hrow : t.steering.rows.get b with
      | none => rw [(State.evaluate_of_none hrow).1, (State.evaluate_of_none hrow).2]; rfl
      | some row =>
        rw [State.evaluate_of_some hrow, Swept.putAct.aim, State.act_putAct, if_pos rfl, ActRec.aimed_aimed]
    case keep =>
      cases hrow : t.steering.rows.get b with
      | none => rw [(State.evaluate_of_none hrow).1]; exact ht
      | some row =>
        rw [State.evaluate_of_some hrow, Swept.putAct.aim, State.act_putAct]
        split
        · next hc => rw [hc, ActRec.aimed_aimed]
        · exact ht
  have hswept := Swept.evaluateAll s
  rw [← settled, hswept.aim, hswept.act]

/-! ## Lane records written where no row is loaded (R49) -/

/-- No lane is loaded. -/
def State.Laneless (s : State) : Prop := ∀ l, s.lanes.rows.get l = none

theorem State.Laneless.columnOf {s : State} (h : s.Laneless) (l : Fin 4) : s.columnOf l = .neutral := by
  simp only [State.columnOf, h l]

/-- A lane record that no actuator reads. -/
theorem Swept.setLane (l : Fin 4) (r : LaneRec) {s : State} (h : s.Laneless) : Swept s (s.setLane l r) := by
  have hset : (s.setLane l r).Laneless := h
  refine ⟨.of_eq rfl rfl rfl rfl, rfl, fun a => ?_, fun _ => rfl⟩
  have hrows : (s.setLane l r).steering.rows.get a = s.steering.rows.get a := rfl
  cases hrow : s.steering.rows.get a with
  | none => rw [State.aim, State.aim, hrows, hrow]; rfl
  | some row =>
    rw [State.aim, State.aim, hrows, hrow, Option.map_some, Option.map_some, hset.columnOf, h.columnOf]
    rfl

theorem State.Laneless.putLane_eq {s : State} (h : s.Laneless) (l : Fin 4) (r : LaneRec) :
    s.putLane l r = if (s.lane l).state = r.state then s.setLane l r
      else ((s.setLane l r).dueLane l).evaluateLane l := by
  have hset : s.setLane l r = { s with lanes := { s.lanes with recs := s.lanes.recs.set l r } } := rfl
  unfold State.putLane
  dsimp only
  rw [h l, ← hset]
  simp only [ite_self]

theorem Swept.putLane (l : Fin 4) (r : LaneRec) {s : State} (h : s.Laneless) : Swept s (s.putLane l r) := by
  have hset := Swept.setLane l r h
  rw [h.putLane_eq]
  exact relation_cond hset ((hset.trans (.dueLane l _)).trans (.evaluateLane l _))

theorem State.lanes_evaluate (a : Fin 8) (s : State) : (s.evaluate a).lanes = s.lanes := by
  unfold State.evaluate State.putAct
  split
  · rfl
  · dsimp only
    split <;> rfl

theorem State.lanes_evaluateAll (s : State) : s.evaluateAll.lanes = s.lanes :=
  forAll_keeps (P := fun t => t.lanes = s.lanes) (fun a t h => (State.lanes_evaluate a t).trans h) rfl

theorem State.lanes_evaluateLane (l : Fin 4) (s : State) : (s.evaluateLane l).lanes = s.lanes := by
  refine forAll_keeps (P := fun t => t.lanes = s.lanes) (fun a t h => ?_) rfl
  split
  · exact relation_cond (R := fun _ u : State => u.lanes = s.lanes) (s := t) ((State.lanes_evaluate a t).trans h) h
  · exact h

theorem State.Laneless.lanes_putLane {s : State} (h : s.Laneless) (l : Fin 4) (r : LaneRec) :
    (s.putLane l r).lanes = { s.lanes with recs := s.lanes.recs.set l r } := by
  rw [h.putLane_eq]
  split
  · rfl
  · exact State.lanes_evaluateLane l _

theorem State.Laneless.lane_putLane {s : State} (h : s.Laneless) (l l' : Fin 4) (r : LaneRec) :
    (s.putLane l r).lane l' = if l' = l then r else s.lane l' := by
  rw [State.lane, h.lanes_putLane]
  exact Tab.get_set _ _ _ _

theorem State.laneless_putLane {s : State} {l : Fin 4} {r : LaneRec} : (s.putLane l r).Laneless ↔ s.Laneless := by
  rw [State.Laneless, State.Laneless, (Driven.putLane l r s).laneRows]

/-- The walk of CLEAR_TABLE over the lane records (R49). -/
def State.resetLanes (s : State) : State := forAll 4 (fun l s => s.putLane l (LaneRec.reset (s.lane l).summaryAt)) s

section
variable {s : State} (h : s.Laneless)
include h

theorem State.Laneless.resetLanes : Swept s s.resetLanes ∧ s.resetLanes.Laneless
    ∧ s.resetLanes.lanes.ceils = s.lanes.ceils := by
  have start : Swept s s ∧ s.Laneless ∧ s.lanes.ceils = s.lanes.ceils := ⟨.refl s, h, rfl⟩
  unfold State.resetLanes
  refine forAll_keeps (P := fun t => Swept s t ∧ t.Laneless ∧ t.lanes.ceils = s.lanes.ceils) ?_ start
  rintro l t ⟨hswept, ht, hceils⟩
  exact ⟨hswept.trans (.putLane l _ ht), State.laneless_putLane.mpr ht, by rw [ht.lanes_putLane]; exact hceils⟩

/-- Every lane at its reset values. -/
theorem State.Laneless.lane_resetLanes (l : Fin 4) : (s.resetLanes.lane l).core = LaneRec.reset 0 := by
  have settled : s.resetLanes.Laneless → (s.resetLanes.lane l).core = LaneRec.reset 0 := by
    refine forAll_settles (Q := fun l t => t.Laneless → (t.lane l).core = LaneRec.reset 0)
      (fun l t ht => ?own) (fun l l' t hkept ht => ?keep) l s
    all_goals
      have ht := State.laneless_putLane.mp ht
      rw [ht.lane_putLane]
    case own =>
      rw [if_pos rfl]
      rfl
    case keep =>
      split
      · rfl
      · exact hkept ht
  exact settled h.resetLanes.2.1
end

/-! ## The clears that queue nothing -/

theorem LaneState.loadable_iff {st : LaneState} : st.loadable = true ↔ st = .unsynced ∨ st = .stopped ∨ st = .fault := by
  cases st <;> decide

theorem CoupState.loadable_iff {st : CoupState} : st.loadable = true ↔ st = .unsynced ∨ st = .released ∨ st = .fault := by
  cases st <;> decide

section
variable {s : State} (m : List Byte)

theorem State.clearStations_of_idle (hprop : s.intake.prop.station = none) (hsteer : s.intake.steer.station = none) :
    s.clearStations m = State.done { s with intake := { s.intake with
      stations := Tab.fill 4 none, refusals := Tab.fill 4 0 } } := by
  simp [State.clearStations, hprop, hsteer]

theorem State.clearStations_of_command (h : s.intake.prop.station ≠ none ∨ s.intake.steer.station ≠ none) :
    s.clearStations m = s.refuses .rowInUse := by
  refine if_pos ?_
  rw [Bool.or_eq_true, Option.isSome_iff_ne_none, Option.isSome_iff_ne_none]
  exact h

/-- The state with the lane table and the ceilings emptied, the lane records as they were. -/
def State.unloaded (s : State) : State :=
  { s with lanes := { s.lanes with rows := Tab.fill 4 none, ceils := Tab.fill 4 Ceilings.empty } }

theorem State.clearLanes_of_loadable (h : ∀ l, s.lanes.rows.get l ≠ none → (s.lane l).state.loadable = true) :
    s.clearLanes m = s.unloaded.resetLanes.evaluateAll.done := by
  refine if_neg ?_
  rw [Bool.not_eq_true, any_indices_eq_false]
  intro l
  cases hrow : s.lanes.rows.get l with
  | none => rfl
  | some row => simp [h l (by simp [hrow])]

theorem State.clearLanes_of_busy {l : Fin 4} (hrow : s.lanes.rows.get l ≠ none)
    (hstate : (s.lane l).state.loadable = false) : s.clearLanes m = s.refuses .badState := by
  refine if_pos (any_indices_iff.mpr ⟨l, ?_⟩)
  rw [hstate, Option.isSome_iff_ne_none.mpr hrow]
  rfl

theorem State.clearGroups_of_empty (h0 : s.members 0 = []) (h1 : s.members 1 = []) :
    s.clearGroups m = State.done { s with groups := { s.groups with rows := Tab.fill 2 none } } := by
  refine if_neg ?_
  rw [Bool.not_eq_true, any_indices_eq_false]
  intro g
  have hg : s.members g = [] := by
    rcases (by omega : g = 0 ∨ g = 1) with rfl | rfl
    · exact h0
    · exact h1
  rw [hg]
  rfl

theorem State.clearGroups_of_member {g : Fin 2} (h : s.members g ≠ []) : s.clearGroups m = s.refuses .badState := by
  refine if_pos (any_indices_iff.mpr ⟨g, ?_⟩)
  simpa using h

theorem State.clearActuators_of_idle (h : ∀ a, (s.act a).state ≠ .tracking) :
    s.clearActuators m = (State.dueHelm { s with steering := { s.steering with
      rows := Tab.fill 8 none, recs := Tab.fill 8 ActRec.reset } }).done := by
  refine if_neg ?_
  rw [Bool.not_eq_true, any_indices_eq_false]
  exact fun a => beq_eq_false_iff_ne.mpr (h a)

theorem State.clearActuators_of_tracking {a : Fin 8} (h : (s.act a).state = .tracking) :
    s.clearActuators m = s.refuses .badState := by
  refine if_pos (any_indices_iff.mpr ⟨a, ?_⟩)
  exact beq_iff_eq.mpr h

theorem bankOf_eq {m : List Byte} {b : Bank} (h : u8 m 1 = match b with | .A => 5 | .B => 6) : bankOf m = b := by
  cases b
  · exact if_pos h
  · exact if_neg (by rw [h]; decide)

theorem State.clearBank_of_standby {m : List Byte} {b : Bank} (hbank : bankOf m = b) (h : b ≠ s.steering.active) :
    s.clearBank m = State.done { s with steering := { s.steering.setBank b (Tab.fill 8 none) with complete := false } } := by
  subst hbank
  exact if_neg h

theorem State.clearBank_of_active {m : List Byte} {b : Bank} (hbank : bankOf m = b) (h : b = s.steering.active) :
    s.clearBank m = s.refuses .rowInUse := by
  subst hbank
  exact if_pos h

theorem State.slotsOccupied_iff : s.slotsOccupied = true ↔ s.transfers.active ≠ none ∨ s.transfers.waiting ≠ none := by
  rw [State.slotsOccupied, Bool.or_eq_true, Option.isSome_iff_ne_none, Option.isSome_iff_ne_none]

theorem State.slotsOccupied_of_none (hactive : s.transfers.active = none) (hwaiting : s.transfers.waiting = none) :
    s.slotsOccupied = false := by
  rw [State.slotsOccupied, hactive, hwaiting]
  rfl

theorem State.clearChannels_of_idle (h : s.slotsOccupied = false) :
    s.clearChannels m = State.done { s with fuel := { s.fuel with
      channels := Tab.fill 8 none, recs := Tab.fill 8 ChanRec.reset } } := if_neg (ne_true_of_eq_false h)

theorem State.clearChannels_of_occupied (h : s.slotsOccupied = true) :
    s.clearChannels m = s.refuses .transferActive := if_pos h

theorem State.clearTanks_of_occupied (h : s.slotsOccupied = true) :
    s.clearTanks m = s.refuses .transferActive := if_pos h

theorem State.clearCouplings_of_busy {c : Fin 32} (hrow : s.couplings.rows.get c ≠ none)
    (hstate : (s.coup c).state.loadable = false) : s.clearCouplings m = s.refuses .badState := by
  have hbusy : (!(s.couplings.recs.get c).state.loadable) = true := by
    rw [Bool.not_eq_true']
    exact hstate
  refine if_pos (any_indices_iff.mpr ⟨c, ?_⟩)
  rw [hbusy, Option.isSome_iff_ne_none.mpr hrow]
  rfl

end

/-! ## The lane table cleared (R49, R100) -/

/-- The state as the lane table's clearing leaves it, but for the actuators. -/
def State.lanesCleared (s : State) : State :=
  { s with lanes := { rows := Tab.fill 4 none, recs := Tab.fill 4 (LaneRec.reset 0), ceils := Tab.fill 4 Ceilings.empty } }

theorem State.unloaded_laneless (s : State) : s.unloaded.Laneless := fun l => Tab.get_fill none l

theorem State.lanesCleared_laneless (s : State) : s.lanesCleared.Laneless := fun l => Tab.get_fill none l

theorem Swept.unloaded (s : State) : Swept s.unloaded s.lanesCleared := by
  refine ⟨.of_eq rfl rfl rfl rfl, rfl, fun a => ?_, fun _ => rfl⟩
  have hrows : s.lanesCleared.steering.rows.get a = s.unloaded.steering.rows.get a := rfl
  cases hrow : s.unloaded.steering.rows.get a with
  | none => rw [State.aim, State.aim, hrows, hrow]; rfl
  | some row =>
    rw [State.aim, State.aim, hrows, hrow, Option.map_some, Option.map_some, s.lanesCleared_laneless.columnOf,
      s.unloaded_laneless.columnOf]
    rfl

theorem Silent.clearedLanes (s : State) : Silent s s.unloaded.resetLanes.evaluateAll := by
  obtain ⟨hreset, -, -⟩ := s.unloaded_laneless.resetLanes
  have hunloaded : Silent s s.unloaded := .of_eq rfl rfl rfl rfl
  exact hunloaded.trans (hreset.trans (.evaluateAll _)).silent

/-- The walk over the lane records and the evaluation after it leave what one evaluation of the emptied table leaves. -/
theorem State.quiet_clearedLanes (s : State) :
    s.unloaded.resetLanes.evaluateAll.quiet = s.lanesCleared.evaluateAll.quiet := by
  obtain ⟨hreset, -, -⟩ := s.unloaded_laneless.resetLanes
  have hcleared := Swept.unloaded s
  refine State.quiet_eq_of_undriven ?undriven (fun l => ?lane) (fun a => ?act)
  case undriven =>
    rw [(Swept.evaluateAll _).undriven, hreset.undriven, (Swept.evaluateAll _).undriven, hcleared.undriven]
  case lane =>
    have hfill : s.lanesCleared.lanes.recs.get l = LaneRec.reset 0 := Tab.get_fill _ l
    rw [State.lane, State.lanes_evaluateAll, State.lane, State.lanes_evaluateAll, hfill]
    exact s.unloaded_laneless.lane_resetLanes l
  case act =>
    rw [State.act_evaluateAll, State.act_evaluateAll, hreset.aim, hreset.act, hcleared.aim, hcleared.act]

end Sys2Proof.Machine
end

section
/-!
PROOFS. What a change of the ceilings and of reach does to the rest of the part (R66, R76, R80, R89, R106): the records that it
leaves, the flags that it keeps, and the orders that it queues on B, counted.
-/

namespace Sys2Proof.Machine

/-! ## Orders and ATTENTION frames appended to B's queue (R7, R26) -/

/-- 1 while ACTUATOR_UNREACHABLE would still send an ATTENTION frame, 0 once its flag is set or masked (R163). -/
def State.unreachableNotice (s : State) : Nat := if (s.flag .actuatorUnreachable).sends then 1 else 0

/-- The ATTENTION frames that PORT_CONGESTED and ACTUATOR_UNREACHABLE may still send. -/
def State.notices (s : State) : Nat := s.congestedNotice + s.unreachableNotice

theorem State.notices_le (s : State) : s.notices ≤ 2 := by
  have hunreachable : s.unreachableNotice ≤ 1 := by
    unfold State.unreachableNotice
    split <;> omega
  exact Nat.add_le_add s.congestedNotice_le hunreachable

theorem Event.unreachable_ne_congested : Event.actuatorUnreachable ≠ .portCongested := nofun

theorem State.unreachableNotice_congr {s t : State} (h : t.flag .actuatorUnreachable = s.flag .actuatorUnreachable) :
    t.unreachableNotice = s.unreachableNotice := by
  rw [State.unreachableNotice, State.unreachableNotice, h]

theorem State.notices_congr {s t : State} (h : ∀ e, t.flag e = s.flag e) : t.notices = s.notices := by
  rw [State.notices, State.notices, State.congestedNotice_congr (h _), State.unreachableNotice_congr (h _)]

/-- From `s` to `t` at most `n` frames of classes 1 and 2 go to the tail of B's queue, those that the two events still send not
counted in; said of a queue with room for them. -/
def Appends (n : Nat) (s t : State) : Prop :=
  (s.port .B).egress.length + s.notices + n ≤ 48 →
    ∃ mid, (∀ f ∈ mid, f.id.cls = 1#3 ∨ f.id.cls = 2#3) ∧ (t.port .B).egress = (s.port .B).egress ++ mid
      ∧ mid.length + t.notices ≤ n + s.notices

theorem Appends.of_eq {s t : State} (hegress : (t.port .B).egress = (s.port .B).egress) (hnotices : t.notices ≤ s.notices) :
    Appends 0 s t := fun _ => ⟨[], List.forall_mem_nil _, by rw [hegress, List.append_nil], by simpa using hnotices⟩

theorem Appends.of_silent {s t : State} (h : Silent s t) : Appends 0 s t :=
  .of_eq (h.egress .B) (State.notices_congr h.flag).le

theorem Appends.trans {n m : Nat} {s t u : State} (h : Appends n s t) (g : Appends m t u) : Appends (n + m) s u := by
  intro hroom
  obtain ⟨mid, hmid, hegress, hcount⟩ := h (by omega)
  have hlength : (t.port .B).egress.length = (s.port .B).egress.length + mid.length := by
    rw [hegress, List.length_append]
  obtain ⟨mid', hmid', hegress', hcount'⟩ := g (by omega)
  refine ⟨mid ++ mid', fun f hf => (List.mem_append.mp hf).elim (hmid f) (hmid' f), ?_, ?_⟩
  · rw [hegress', hegress, List.append_assoc]
  · rw [List.length_append]
    omega

theorem Appends.mono {n m : Nat} {s t : State} (h : Appends n s t) (hnm : n ≤ m) : Appends m s t := by
  intro hroom
  obtain ⟨mid, hmid, hegress, hcount⟩ := h (by omega)
  exact ⟨mid, hmid, hegress, by omega⟩

theorem Appends.enqueue {f : CmsFrame} (hf : f.id.cls = 1#3 ∨ f.id.cls = 2#3) (p : Port) (o : Origin) (s : State) :
    Appends 1 s (s.enqueue p o f) := by
  have hnotices : (s.enqueue p o f).notices = s.notices := State.notices_congr fun e => State.enqueue_flag p o f e s
  by_cases hp : p = .B
  · subst hp
    intro hroom
    refine ⟨[f], by simpa using hf, ?_, by rw [hnotices]; exact Nat.le_refl _⟩
    rw [State.enqueue_port_self, PortState.offered_room (by omega)]
  · exact (Appends.of_eq (congrArg (fun ps => ps.egress) (State.enqueue_port_ne (Ne.symm hp) o f s)) hnotices.le).mono
      (Nat.zero_le 1)

theorem EventFlag.sends_raise (fl : EventFlag) (d : Option Nat) : (fl.raise d).sends = false := by
  cases h : fl.isSet <;> simp [EventFlag.raise, EventFlag.sends, h]

/-- PORT_CONGESTED raised: the one frame it may send was not counted in. -/
theorem Appends.raiseCongested (p : Port) (s : State) : Appends 0 s (s.raiseCongested p) := by
  have hother : (s.raiseCongested p).unreachableNotice = s.unreachableNotice :=
    State.unreachableNotice_congr (State.raiseCongested_flag Event.unreachable_ne_congested p s)
  cases hsends : (s.flag .portCongested).sends with
  | false =>
    have hlatched := State.raiseCongested_of_quiet (p := p) hsends
    refine .of_eq (by rw [hlatched, State.latch_port]) ?_
    rw [State.notices, State.notices, hother, hlatched, State.congestedNotice_latch]
    omega
  | true =>
    have hone : s.congestedNotice = 1 := if_pos hsends
    obtain ⟨hset, hmask⟩ : (s.flag .portCongested).isSet = false ∧ (s.flag .portCongested).masked = false := by
      simpa [EventFlag.sends] using hsends
    obtain ⟨hflag, hbridge, -⟩ := State.raiseCongested_of_sends (p := p) hset hmask
    have hzero : (s.raiseCongested p).congestedNotice = 0 := by
      rw [State.congestedNotice, hflag]
      rfl
    intro hroom
    rw [State.notices, hone] at hroom
    refine ⟨[s.congestedAttention p], List.forall_mem_singleton.mpr (.inr rfl), ?_, ?_⟩
    · rw [hbridge, PortState.offered_room (by omega)]
    · rw [State.notices, State.notices, hother, hzero, hone, List.length_singleton]
      omega

theorem Appends.offer {f : CmsFrame} (hf : f.id.cls = 1#3 ∨ f.id.cls = 2#3) (p : Port) (o : Origin) (s : State) :
    Appends 1 s (s.offer p o f) :=
  relation_cond ((Appends.enqueue hf p o s).trans (.raiseCongested p _)) (.enqueue hf p o s)

theorem Appends.order {k : MsgKind} (hk : k.cls = 1#3 ∨ k.cls = 2#3) (p : Port) (target : Nat) (data : List Byte)
    (s : State) : Appends 1 s (s.order p k target data) :=
  relation_cond (Appends.offer (f := s.frameOf k target data) hk p .originated s)
    ((Appends.of_silent (.refl s)).mono (Nat.zero_le 1))

/-- ACTUATOR_UNREACHABLE raised: the one frame it may send was not counted in. -/
theorem Appends.raiseUnreachable (d : Option Nat) (s : State) : Appends 0 s (s.raise .actuatorUnreachable d) := by
  have hcongested : (s.latch .actuatorUnreachable d).congestedNotice = s.congestedNotice :=
    State.congestedNotice_congr (State.latch_flag_ne Event.unreachable_ne_congested.symm d s)
  have hzero : (s.latch .actuatorUnreachable d).unreachableNotice = 0 := by
    rw [State.unreachableNotice, State.latch_flag_self, EventFlag.sends_raise]
    rfl
  unfold State.raise State.raiseWith
  dsimp only
  split
  · next hsends =>
    have hone : s.unreachableNotice = 1 := if_pos hsends
    have hsent := Appends.offer (f := (s.latch .actuatorUnreachable d).frameOf .attention 0
      (attentionData .actuatorUnreachable d)) (.inr rfl) .B .originated (s.latch .actuatorUnreachable d)
    rw [Appends, State.notices, hcongested, hzero, State.latch_port] at hsent
    have hnotices : s.notices = s.congestedNotice + 1 := congrArg _ hone
    intro hroom
    rw [hnotices] at hroom ⊢
    obtain ⟨mid, hmid, hegress, hcount⟩ := hsent (by omega)
    exact ⟨mid, hmid, hegress, by omega⟩
  · refine .of_eq (by rw [State.latch_port]) ?_
    rw [State.notices, State.notices, hcongested, hzero]
    omega

/-! ## What the drives leave as it is -/

/-- From `s` to `t` the clock, every part but the records of the drives and the flags but those of `es` are the same, and at
most `n` frames are appended to B's queue. -/
structure Steers (es : List Event) (n : Nat) (s t : State) : Prop where
  now       : t.now = s.now
  lessDrive : t.lessDrive = s.lessDrive
  flags     : FlagsKept s t es
  appends   : Appends n s t

/-- Besides, no actuator changes its state. -/
structure Posts (n : Nat) (s t : State) : Prop extends Steers [] n s t where
  act : ∀ a, (t.act a).state = (s.act a).state

/-- Besides, no entry of a ceiling record changes. -/
structure Cuts (n : Nat) (s t : State) : Prop extends Posts n s t where
  ceils : t.lanes.ceils = s.lanes.ceils

theorem Steers.refl (s : State) : Steers [] 0 s s := ⟨rfl, rfl, fun _ _ _ => rfl, .of_silent (.refl s)⟩

theorem Steers.trans {es : List Event} {n m : Nat} {s t u : State} (h : Steers es n s t) (g : Steers es m t u) :
    Steers es (n + m) s u where
  now := g.now.trans h.now
  lessDrive := g.lessDrive.trans h.lessDrive
  flags e he hes := (g.flags e he hes).trans (h.flags e he hes)
  appends := h.appends.trans g.appends

theorem Steers.mono {es es' : List Event} {n m : Nat} {s t : State} (h : Steers es n s t) (hes : ∀ e ∈ es, e ∈ es')
    (hnm : n ≤ m) : Steers es' m s t :=
  ⟨h.now, h.lessDrive, fun e he hmem => h.flags e he fun hin => hmem (hes e hin), h.appends.mono hnm⟩

section
variable {es : List Event} {n : Nat} {s t : State} (h : Steers es n s t)
include h

theorem Steers.laneRows : t.lanes.rows = s.lanes.rows := congrArg (fun u => u.lanes.rows) h.lessDrive
theorem Steers.actRows : t.steering.rows = s.steering.rows := congrArg (fun u => u.steering.rows) h.lessDrive
theorem Steers.coupRows : t.couplings.rows = s.couplings.rows := congrArg (fun u => u.couplings.rows) h.lessDrive
end

theorem Posts.refl (s : State) : Posts 0 s s := ⟨.refl s, fun _ => rfl⟩

theorem Posts.trans {n m : Nat} {s t u : State} (h : Posts n s t) (g : Posts m t u) : Posts (n + m) s u :=
  ⟨h.toSteers.trans g.toSteers, fun a => (g.act a).trans (h.act a)⟩

theorem Posts.mono {n m : Nat} {s t : State} (h : Posts n s t) (hnm : n ≤ m) : Posts m s t :=
  ⟨h.toSteers.mono (fun _ he => he) hnm, h.act⟩

theorem Cuts.refl (s : State) : Cuts 0 s s := ⟨.refl s, rfl⟩

theorem Cuts.trans {n m : Nat} {s t u : State} (h : Cuts n s t) (g : Cuts m t u) : Cuts (n + m) s u :=
  ⟨h.toPosts.trans g.toPosts, g.ceils.trans h.ceils⟩

theorem Cuts.mono {n m : Nat} {s t : State} (h : Cuts n s t) (hnm : n ≤ m) : Cuts m s t :=
  ⟨h.toPosts.mono hnm, h.ceils⟩

theorem Cuts.cond {n : Nat} {s t u : State} {p : Prop} [Decidable p] (ht : Cuts n s t) (hu : Cuts n s u) :
    Cuts n s (if p then t else u) := relation_cond ht hu

/-! ## Writes of one record -/

theorem State.lessDrive_congr {s t : State} (h : t.quiet = s.quiet) : t.lessDrive = s.lessDrive :=
  congrArg (fun u : State => { u with
    lanes := { u.lanes with recs := State.reset.lanes.recs, ceils := State.reset.lanes.ceils }
    groups := { u.groups with recs := State.reset.groups.recs }
    steering := { u.steering with recs := State.reset.steering.recs } }) h

theorem ActRec.aimed_state (x : Option (Dir × Int)) (r : ActRec) : (r.aimed x).state = r.state := by
  cases x <;> rfl

/-- Evaluation of actuators (R100). -/
theorem Cuts.of_swept {s t : State} (h : Swept s t) : Cuts 0 s t where
  now := h.silent.now
  lessDrive := congrArg (fun u : State => { u with
    lanes := { u.lanes with ceils := State.reset.lanes.ceils }
    groups := { u.groups with recs := State.reset.groups.recs } }) h.undriven
  flags e _ _ := h.silent.flag e
  appends := .of_silent h.silent
  act a := by rw [← ActRec.aimed_state (s.aim a) (t.act a), h.act a, ActRec.aimed_state]
  ceils := congrArg (fun u => u.lanes.ceils) h.undriven

/-- Frames queued, by what they are. -/
theorem Cuts.of_calm {n : Nat} {s t : State} (h : Calm s t) (hflags : FlagsKept s t []) (happends : Appends n s t) :
    Cuts n s t where
  now := h.now
  lessDrive := State.lessDrive_congr h.quiet
  flags := hflags
  appends := happends
  act a := congrArg (fun u => (u.steering.recs.get a).state) h.quiet
  ceils := congrArg (fun u => u.lanes.ceils) h.quiet

theorem Cuts.setLane (l : Fin 4) (r : LaneRec) (s : State) : Cuts 0 s (s.setLane l r) :=
  ⟨⟨⟨rfl, rfl, fun _ _ _ => rfl, .of_silent (.of_eq rfl rfl rfl rfl)⟩, fun _ => rfl⟩, rfl⟩

theorem Cuts.putGroup (g : Fin 2) (r : GroupRec) (s : State) : Cuts 0 s (s.putGroup g r) :=
  ⟨⟨⟨rfl, rfl, fun _ _ _ => rfl, .of_silent (.of_eq rfl rfl rfl rfl)⟩, fun _ => rfl⟩, rfl⟩

theorem State.putLane_of_state {l : Fin 4} {r : LaneRec} {s : State} (h : (s.lane l).state = r.state) :
    s.putLane l r = s.setLane l r := if_pos h

/-- A lane record written by which the lane does not become active. -/
theorem Cuts.putLane {l : Fin 4} {r : LaneRec} {s : State} (h : r.state.active = true → (s.lane l).state.active = true) :
    Cuts 0 s (s.putLane l r) := by
  have hset := Cuts.setLane l r s
  have hidle : ¬ (r.state.active && !(s.lane l).state.active) = true := by
    rw [Bool.and_eq_true, Bool.not_eq_true']
    exact fun ⟨hnew, hold⟩ => ne_true_of_eq_false hold (h hnew)
  unfold State.putLane
  dsimp only
  rw [if_neg hidle]
  exact .cond hset ((hset.trans (.of_swept (.dueLane l _))).trans (.of_swept (.evaluateLane l _)))

/-! ## Setpoints cut (R65 to R68, R89) -/

theorem State.order_flag {e : Event} (h : e ≠ .portCongested) (p : Port) (k : MsgKind) (target : Nat) (data : List Byte)
    (s : State) : (s.order p k target data).flag e = s.flag e := by
  unfold State.order
  split
  · exact State.offer_flag h p .originated _ s
  · rfl

/-- An order of class 1 or 2. -/
theorem Cuts.order {k : MsgKind} (hk : k.cls = 1#3 ∨ k.cls = 2#3) (p : Port) (target : Nat) (data : List Byte)
    (s : State) : Cuts 1 s (s.order p k target data) :=
  .of_calm (.order p k target data s) (fun _ he _ => State.order_flag he p k target data s) (.order hk p target data s)

theorem Cuts.orderLane (l : Fin 4) (row : LaneRow) (s : State) : Cuts 1 s (s.orderLane l row) := by
  have hput : Cuts 0 s (s.putLane l { s.lane l with refreshTimer := some (s.now + row.refresh) }) := .putLane id
  have hordered := hput.trans (.order (k := .governorOrder) (.inl rfl) row.port row.node
    (byte (s.lane l).gear.code :: be16 (s.lane l).setpoint ++ [byte l.val]) _)
  unfold State.orderLane
  exact .cond hordered ((Cuts.refl s).mono (Nat.zero_le 1))

theorem Cuts.declutch {l : Fin 4} {s : State} (h : (s.lane l).state.active = true) (row : LaneRow) :
    Cuts 1 s (s.declutch l row) := by
  have hput : Cuts 0 s (s.putLane l { s.lane l with
      state := .declutch, gear := .neutral, setpoint := row.idle, kickMark := none, kickTimer := none,
      clutchTimer := none, rampTimer := none, neutralTimer := some (s.now + row.neutralTimeout) }) := .putLane fun _ => h
  exact hput.trans (.orderLane l row _)

theorem Cuts.writeSetpoint (l : Fin 4) (row : LaneRow) (v : Nat) (s : State) : Cuts 1 s (s.writeSetpoint l row v) := by
  have hput : s.putLane l { s.lane l with setpoint := v } = s.setLane l { s.lane l with setpoint := v } :=
    State.putLane_of_state rfl
  have hwrite := Cuts.setLane l { s.lane l with setpoint := v } s
  unfold State.writeSetpoint
  dsimp only
  rw [hput]
  refine .cond ((Cuts.refl s).mono (Nat.zero_le 1)) ?_
  split
  · next hramp =>
    obtain ⟨hstate, -⟩ := hramp
    have hactive : ((s.setLane l { s.lane l with setpoint := v }).lane l).state.active = true := by
      rw [State.setLane, State.lane_set, hstate]
      rfl
    exact hwrite.trans (.declutch hactive row)
  · exact hwrite.trans (.orderLane l row _)

theorem Cuts.writeSetpoints (ls : List (Fin 4)) (v : Nat) (s : State) : Cuts ls.length s (s.writeSetpoints ls v) := by
  induction ls generalizing s with
  | nil => exact .refl s
  | cons l ls ih =>
    have hfirst : Cuts 1 s (match s.lanes.rows.get l with
        | some row => s.writeSetpoint l row v
        | none => s) := by
      split
      · exact .writeSetpoint l _ v s
      · exact (Cuts.refl s).mono (Nat.zero_le 1)
    exact (hfirst.trans (ih _)).mono (by rw [List.length_cons]; omega)

theorem State.riders_length (s : State) (g : Fin 2) : (s.riders g).length ≤ 4 :=
  (List.length_filter_le _ _).trans (List.length_filter_le _ (indices 4))

theorem Cuts.movePoint (g : Fin 2) (v : Nat) (s : State) : Cuts 4 s (s.movePoint g v) := by
  have hmoved := (Cuts.putGroup g { s.groups.recs.get g with point := v } s).trans (.writeSetpoints (s.riders g) v _)
  unfold State.movePoint
  exact .cond ((Cuts.refl s).mono (Nat.zero_le 4)) (hmoved.mono (by rw [Nat.zero_add]; exact s.riders_length g))

theorem Cuts.cutPoint (g : Fin 2) (s : State) : Cuts 4 s (s.cutPoint g) := by
  have hstay : Cuts 4 s s := (Cuts.refl s).mono (Nat.zero_le 4)
  unfold State.cutPoint
  split
  · exact .cond (.movePoint g _ s) hstay
  · exact hstay

theorem Cuts.applyCeiling (l : Fin 4) (s : State) : Cuts 5 s (s.applyCeiling l) := by
  have hstay : ∀ n, Cuts n s s := fun n => (Cuts.refl s).mono (Nat.zero_le n)
  unfold State.applyCeiling
  split
  · exact hstay 5
  · next row _ =>
    have hpoint : Cuts 4 s (if (s.lane l).inStep then
        match row.home with
        | some g => s.cutPoint g
        | none => s
      else s) := by
      refine .cond ?_ (hstay 4)
      split
      · exact .cutPoint _ s
      · exact hstay 4
    exact .cond (.cond (hpoint.trans (.writeSetpoint l row _ _)) (hpoint.mono (by omega))) (hstay 5)

/-! ## Entries of the ceilings posted (R75, R80) -/

theorem Posts.putCeilings (l : Fin 4) (c : Ceilings) (s : State) :
    Posts 5 s (s.putCeilings l c) ∧ (s.putCeilings l c).lanes.ceils = s.lanes.ceils.set l c := by
  have hset : Posts 0 s { s with lanes := { s.lanes with ceils := s.lanes.ceils.set l c } } :=
    ⟨⟨rfl, rfl, fun _ _ _ => rfl, .of_silent (.of_eq rfl rfl rfl rfl)⟩, fun _ => rfl⟩
  have hcut := Cuts.applyCeiling l { s with lanes := { s.lanes with ceils := s.lanes.ceils.set l c } }
  exact ⟨hset.trans hcut.toPosts, hcut.ceils⟩

/-- One lane's part of a posting. -/
def State.postAt (on : LaneRow → Bool) (f : LaneRow → Ceilings → Ceilings) (l : Fin 4) (s : State) : State :=
  match s.lanes.rows.get l with
  | some row => if on row then s.putCeilings l (f row (s.lanes.ceils.get l)) else s
  | none => s

theorem State.postCeilings_eq (on : LaneRow → Bool) (f : LaneRow → Ceilings → Ceilings) (s : State) :
    s.postCeilings on f = forEach (indices 4) (State.postAt on f) s := rfl

/-- A lane's entries after a posting. -/
def postedEntries (on : LaneRow → Bool) (f : LaneRow → Ceilings → Ceilings) (row : Option LaneRow) (c : Ceilings) :
    Ceilings :=
  match row with
  | some row => if on row then f row c else c
  | none => c

theorem Posts.postAt (on : LaneRow → Bool) (f : LaneRow → Ceilings → Ceilings) (l : Fin 4) (s : State) :
    Posts (if (s.lanes.rows.get l).any on then 5 else 0) s (s.postAt on f l)
      ∧ (s.postAt on f l).lanes.ceils
        = s.lanes.ceils.set l (postedEntries on f (s.lanes.rows.get l) (s.lanes.ceils.get l)) := by
  have hkept : s.lanes.ceils = s.lanes.ceils.set l (s.lanes.ceils.get l) := by
    refine Tab.ext_get fun l' => ?_
    rw [Tab.get_set]
    split
    · next h => rw [h]
    · rfl
  unfold State.postAt
  cases s.lanes.rows.get l with
  | none => exact ⟨.refl s, hkept⟩
  | some row =>
    cases hon : on row with
    | false => simpa [postedEntries, hon] using ⟨Posts.refl s, hkept⟩
    | true => simpa [postedEntries, hon] using Posts.putCeilings l (f row (s.lanes.ceils.get l)) s

/-- A posting on the lanes of a list. -/
theorem Posts.forEach_postAt {on : LaneRow → Bool} {f : LaneRow → Ceilings → Ceilings} {is : List (Fin 4)}
    (hnodup : is.Nodup) (s : State) :
    Posts (5 * is.countP fun l => (s.lanes.rows.get l).any on) s (forEach is (State.postAt on f) s)
      ∧ ∀ l, (forEach is (State.postAt on f) s).lanes.ceils.get l = if l ∈ is
          then postedEntries on f (s.lanes.rows.get l) (s.lanes.ceils.get l) else s.lanes.ceils.get l := by
  induction is generalizing s with
  | nil => exact ⟨.refl s, fun l => (if_neg List.not_mem_nil).symm⟩
  | cons i is ih =>
    obtain ⟨hi, hnodup⟩ := List.nodup_cons.mp hnodup
    obtain ⟨hpost, hceils⟩ := Posts.postAt on f i s
    obtain ⟨hrest, hentries⟩ := ih hnodup (s.postAt on f i)
    rw [hpost.laneRows] at hrest hentries
    refine ⟨(hpost.trans hrest).mono ?count, fun l => ?entries⟩
    case count =>
      rw [List.countP_cons]
      split <;> omega
    case entries =>
      refine (hentries l).trans ?_
      rw [hceils, Tab.get_set]
      by_cases hl : l = i
      · subst hl
        rw [if_neg hi, if_pos rfl, if_pos List.mem_cons_self]
      · rw [if_neg hl]
        exact if_congr (by simp [hl]) rfl rfl

/-- A posting reaches the entries of the loaded lanes that it is for. -/
theorem Posts.postCeilings (on : LaneRow → Bool) (f : LaneRow → Ceilings → Ceilings) (s : State) :
    Posts (5 * (indices 4).countP fun l => (s.lanes.rows.get l).any on) s (s.postCeilings on f)
      ∧ ∀ l, (s.postCeilings on f).lanes.ceils.get l
        = postedEntries on f (s.lanes.rows.get l) (s.lanes.ceils.get l) := by
  obtain ⟨hposts, hentries⟩ := Posts.forEach_postAt (on := on) (f := f) (is := indices 4) (by decide) s
  rw [State.postCeilings_eq]
  exact ⟨hposts, fun l => (hentries l).trans (if_pos (mem_indices l))⟩

end Sys2Proof.Machine
end

section
/-!
PROOFS. CLEAR_TABLE of the tank and the coupling table, after which ceilings are posted and reach is tested again (R109, R125,
R129), and with them CLEAR_TABLE of every table (O19).
-/

namespace Sys2Proof.Machine

/-! ## Reach tested again (R106) -/

/-- From `s` to `t` no ceiling changes, and ACTUATOR_UNREACHABLE may be raised. -/
structure Retests (n : Nat) (s t : State) : Prop extends Steers [.actuatorUnreachable] n s t where
  ceils : t.lanes.ceils = s.lanes.ceils

theorem Retests.trans {n m : Nat} {s t u : State} (h : Retests n s t) (g : Retests m t u) : Retests (n + m) s u :=
  ⟨h.toSteers.trans g.toSteers, g.ceils.trans h.ceils⟩

theorem Retests.mono {n m : Nat} {s t : State} (h : Retests n s t) (hnm : n ≤ m) : Retests m s t :=
  ⟨h.toSteers.mono (fun _ he => he) hnm, h.ceils⟩

theorem Retests.of_cuts {n : Nat} {s t : State} (h : Cuts n s t) : Retests n s t :=
  ⟨h.toSteers.mono (fun _ he => absurd he List.not_mem_nil) (Nat.le_refl n), h.ceils⟩

theorem Retests.refl (s : State) : Retests 0 s s := .of_cuts (.refl s)

theorem Retests.putAct (a : Fin 8) (r : ActRec) (s : State) : Retests 0 s (s.putAct a r) := by
  unfold State.putAct
  dsimp only
  exact relation_cond ⟨⟨rfl, rfl, fun _ _ _ => rfl, .of_silent (.of_eq rfl rfl rfl rfl)⟩, rfl⟩
    ⟨⟨rfl, rfl, fun _ _ _ => rfl, .of_silent (.of_eq rfl rfl rfl rfl)⟩, rfl⟩

theorem Retests.raise (d : Option Nat) (s : State) : Retests 0 s (s.raise .actuatorUnreachable d) where
  now := (Calm.raise _ d s).now
  lessDrive := State.lessDrive_congr (Calm.raise _ d s).quiet
  flags _ he hes := State.raiseWith_flag_ne he (fun h => hes (List.mem_singleton.mpr h)) d _ s
  appends := .raiseUnreachable d s
  ceils := congrArg (fun u => u.lanes.ceils) (Calm.raise _ d s).quiet

theorem Cuts.steerOrder (a : Fin 8) (row : ActRow) (v : Int) (s : State) : Cuts 1 s (s.steerOrder a row v) :=
  .order (.inl rfl) _ _ _ _

theorem Retests.orderAct (a : Fin 8) (s : State) : Retests 1 s (s.orderAct a) := by
  unfold State.orderAct
  split
  · exact (Retests.refl s).mono (Nat.zero_le 1)
  · exact (Retests.putAct a _ s).trans (.of_cuts (.steerOrder a _ _ _))

theorem Retests.enterUnreachable (a : Fin 8) (row : ActRow) (s : State) : Retests 1 s (s.enterUnreachable a row) :=
  ((Retests.putAct a _ s).trans (.of_cuts (.steerOrder a row 0 _))).trans (.raise _ _)

theorem Retests.enterTracking (a : Fin 8) (row : ActRow) (v : Int) (since : Nat) (s : State) :
    Retests 1 s (s.enterTracking a row v since) :=
  ((Retests.putAct a _ s).trans (.of_cuts (.of_swept (.evaluate a _)))).trans (.orderAct a _)

theorem Retests.retestReach (a : Fin 8) (s : State) : Retests 1 s (s.retestReach a) := by
  have hstay : Retests 1 s s := (Retests.refl s).mono (Nat.zero_le 1)
  unfold State.retestReach
  split
  · exact hstay
  · next row _ =>
    split
    · exact relation_cond hstay (.enterUnreachable a row s)
    · exact relation_cond (.enterTracking a row 0 _ s) hstay
    · exact hstay
    · exact hstay

theorem Retests.forEach {is : List (Fin 8)} (s : State) : Retests is.length s (forEach is State.retestReach s) := by
  induction is generalizing s with
  | nil => exact .refl s
  | cons a is ih => exact ((Retests.retestReach a s).trans (ih _)).mono (by rw [List.length_cons]; omega)

/-! ## The state of an actuator whose reach is tested again -/

theorem State.act_of_calm {s t : State} (h : Calm s t) (a : Fin 8) : t.act a = s.act a :=
  congrArg (fun u => u.steering.recs.get a) h.quiet

theorem State.act_steerOrder (a b : Fin 8) (row : ActRow) (v : Int) (s : State) :
    (s.steerOrder a row v).act b = s.act b := State.act_of_calm (Calm.order _ _ _ _ _) b

theorem State.act_putAct_ne {a b : Fin 8} (h : b ≠ a) (r : ActRec) (s : State) : (s.putAct a r).act b = s.act b := by
  rw [State.act_putAct, if_neg h]

theorem State.act_orderAct_ne {a b : Fin 8} (h : b ≠ a) (s : State) : (s.orderAct a).act b = s.act b := by
  unfold State.orderAct
  split
  · rfl
  · rw [State.act_steerOrder, State.act_putAct_ne h]

theorem State.act_enterUnreachable (a b : Fin 8) (row : ActRow) (s : State) :
    ((s.enterUnreachable a row).act b).state = if b = a then .unreachable else (s.act b).state := by
  unfold State.enterUnreachable
  dsimp only
  rw [State.act_of_calm (Calm.raise _ _ _), State.act_steerOrder, State.act_putAct]
  split <;> rfl

theorem State.act_enterTracking_ne {a b : Fin 8} (h : b ≠ a) (row : ActRow) (v : Int) (since : Nat) (s : State) :
    ((s.enterTracking a row v since).act b).state = (s.act b).state := by
  unfold State.enterTracking
  dsimp only
  rw [State.act_orderAct_ne h, (Cuts.of_swept (.evaluate a _)).act, State.act_putAct_ne h]

theorem State.act_retestReach_ne {a b : Fin 8} (h : b ≠ a) (s : State) :
    ((s.retestReach a).act b).state = (s.act b).state := by
  unfold State.retestReach
  split
  · rfl
  · split
    · split
      · rfl
      · rw [State.act_enterUnreachable, if_neg h]
    · split
      · exact State.act_enterTracking_ne h _ _ _ s
      · rfl
    · rfl
    · rfl

/-- A TRACKING actuator that is no longer reachable becomes UNREACHABLE, and one that is UNREACHABLE stays so. -/
theorem State.act_retestReach_self {a : Fin 8} {row : ActRow} {s : State} (hrow : s.steering.rows.get a = some row)
    (hreach : s.reachable row = false) (hstate : (s.act a).state = .tracking ∨ (s.act a).state = .unreachable) :
    ((s.retestReach a).act a).state = .unreachable := by
  have hact : s.steering.recs.get a = s.act a := rfl
  unfold State.retestReach
  rw [hrow, hact]
  rcases hstate with hstate | hstate
  · simp only [hstate, hreach, Bool.false_eq_true, if_false]
    rw [State.act_enterUnreachable, if_pos rfl]
  · simp only [hstate, hreach, Bool.false_eq_true, if_false]

/-- With no coupling loaded no reach path has a coupling that is MADE_FAST (R106, R109). -/
theorem State.reachable_of_uncoupled {s : State} (h : ∀ c, s.couplings.rows.get c = none) {row : ActRow}
    (hpath : row.path ≠ []) : s.reachable row = false := by
  obtain ⟨c, rest, hrow⟩ := List.exists_cons_of_ne_nil hpath
  have hfast : s.madeFast c = false := by rw [State.madeFast, h c]; rfl
  rw [State.reachable, hrow, List.all_cons, hfast, Bool.false_and]

/-- Reach tested again with no coupling loaded: a TRACKING actuator with a reach path becomes UNREACHABLE. -/
theorem State.act_forEach_retestReach {a : Fin 8} {row : ActRow} {is : List (Fin 8)} {s : State}
    (huncoupled : ∀ c, s.couplings.rows.get c = none) (hrow : s.steering.rows.get a = some row) (hpath : row.path ≠ [])
    (hstate : (s.act a).state = .unreachable ∨ (a ∈ is ∧ (s.act a).state = .tracking)) :
    ((forEach is State.retestReach s).act a).state = .unreachable := by
  induction is generalizing s with
  | nil => exact hstate.resolve_right fun h => nomatch h.1
  | cons i is ih =>
    have hstep := Retests.retestReach i s
    refine ih (s := s.retestReach i) (by rwa [hstep.coupRows]) (by rwa [hstep.actRows]) ?_
    by_cases hi : a = i
    · subst hi
      exact .inl (State.act_retestReach_self hrow (State.reachable_of_uncoupled huncoupled hpath)
        (hstate.symm.imp_left And.right))
    · rw [State.act_retestReach_ne hi]
      exact hstate.imp_right fun ⟨hmem, htracking⟩ => ⟨(List.mem_cons.mp hmem).resolve_left hi, htracking⟩

/-! ## The answer to a request whose owner steers the drives -/

theorem State.replyFrames_singleton (target : Nat) (a b : Byte) (s : State) :
    ∃ f, s.replyFrames target [a, b] = [f] := List.length_eq_one_iff.mp (by simp [State.replyFrames])

/-- The reply of one frame stands behind the orders, and the summaries leave it there. -/
theorem Appends.replies {n target : Nat} {code : Byte} {s t : State} (h : Appends n s t) (hn : n ≤ 28)
    (hnode : t.node = s.node) :
    Replies s (t.reply target code .done []).flush target [code, 0#8] := by
  intro hroom
  have hle := s.notices_le
  obtain ⟨mid, hmid, hegress, hcount⟩ := h (by omega)
  obtain ⟨f, hf⟩ := s.replyFrames_singleton target code 0#8
  have hframes : t.replyFrames target [code, byte Result.done.number] = [f] := (State.replyFrames_congr hnode _ _).trans hf
  have hcongested : t.congestedNotice ≤ t.notices := Nat.le_add_right _ _
  have hlength : (t.port .B).egress.length = (s.port .B).egress.length + mid.length := by
    rw [hegress, List.length_append]
  have hqueued : (t.enqueue .B .originated f).Fronted ((t.port .B).egress ++ [f]) t.congestedNotice := by
    refine ⟨[], ?_, ?_⟩
    · rw [State.enqueue_port_self, PortState.offered_room (by omega), List.append_nil]
    · rw [State.congestedNotice_congr (State.enqueue_flag _ _ _ _ _)]
      exact (Nat.zero_add _).le
  have hfits : ((t.port .B).egress ++ [f]).length + t.congestedNotice < 48 := by
    rw [List.length_append, List.length_singleton]
    omega
  have hreplied : (t.reply target code .done []).Fronted ((t.port .B).egress ++ [f]) t.congestedNotice := by
    rw [State.reply, hframes, State.originateAll_cons]
    split
    · exact hqueued.raiseCongested hfits .B
    · exact hqueued
  have hflushed := (Notified.flush (t.reply target code .done [])).front _ _ hfits hreplied
  refine ⟨mid, hmid, ?_⟩
  rw [hf, ← hegress]
  exact hflushed.isPrefix

/-- A request answered DONE by an owner that makes the write `w` and then steers the drives. -/
theorem answers_of_steers {t source n : Nat} {r : Req} {m : List Byte} {s s2 w u : State} {c : Instr} {es : List Event}
    (h : Completes t r source m s s2) (hc : r.command t = some c) (hr : r ≠ .resetArm)
    (ha : r.owner source m s2 = u.done) (hw : Silent s2 w) (hu : Steers es n w u) (hn : n ≤ 28) :
    Answers (exec c s) fun v => v.now = s2.now ∧ FlagsKept s2 v es ∧ Replies s2 v source [m.getD 0 0, 0#8]
      ∧ v.lessDrive = (w.setArming none).lessDrive ∧ v.lanes.ceils = u.lanes.ceils ∧ ∀ a, v.act a = u.act a := by
  have hquiet : ((u.setArming none).reply source (m.getD 0 0) .done []).flush.quiet = (u.setArming none).quiet := by
    rw [State.quiet_flush, State.quiet_reply]
  have harmed : Silent u (u.setArming none) := .setArming none u
  have hflush := Notified.flush ((u.setArming none).reply source (m.getD 0 0) .done [])
  have hnode : u.node = w.node := congrArg (fun x => x.node) hu.lessDrive
  refine ⟨_, exec_of_completes h hc, ?_⟩
  rw [ha, State.conclude, State.armAfter_of_ne hr]
  refine ⟨?now, fun e he hes => ?flag, ?replies, ?lessDrive, congrArg (fun x => x.lanes.ceils) hquiet,
    fun a => congrArg (fun x => x.steering.recs.get a) hquiet⟩
  case now => exact ((hflush.now.trans (State.reply_now _ _ _ _ _)).trans hu.now).trans hw.now
  case flag =>
    refine ((hflush.flags e he List.not_mem_nil).trans (State.reply_flag he _ _ _ _ _)).trans ?_
    rw [harmed.flag, hu.flags e he hes, hw.flag]
  case replies =>
    have happends := ((Appends.of_silent hw).trans hu.appends).trans (.of_silent harmed)
    exact happends.replies (by omega) (hnode.trans hw.node)
  case lessDrive =>
    have hset : ∀ x : State, (x.setArming none).lessDrive = x.lessDrive.setArming none := fun _ => rfl
    refine (State.lessDrive_congr hquiet).trans ?_
    rw [hset, hset, hu.lessDrive]

/-! ## The tank table cleared (R129) -/

/-- The state with the tank table, the accounts and the sounding list emptied. -/
def State.tanksCleared (s : State) : State :=
  { s with
    fuel := { s.fuel with tanks := Tab.fill 16 none, accts := Tab.fill 16 TankAcct.reset }
    transfers := { s.transfers with soundings := Tab.fill 16 none } }

theorem Silent.tanksCleared (s : State) : Silent s s.tanksCleared := .of_eq rfl rfl rfl rfl

/-- The entries of a lane without FUEL_RESERVE. -/
def Ceilings.unreserved (c : Ceilings) : Ceilings := { c with fuelReserve := none }

theorem State.clearTanks_of_idle {s : State} (m : List Byte) (h : s.slotsOccupied = false) :
    s.clearTanks m = (s.tanksCleared.postCeilings (fun _ => true) fun _ c => c.unreserved).done :=
  if_neg (ne_true_of_eq_false h)

/-! ## The coupling table cleared (R109) -/

/-- The state with the coupling table emptied and every coupling at its reset values. -/
def State.couplingsCleared (s : State) : State :=
  { s with couplings := { s.couplings with
    rows := Tab.fill 32 none, recs := s.couplings.recs.map fun r => CoupRec.reset r.summaryAt } }

theorem Silent.couplingsCleared (s : State) : Silent s s.couplingsCleared := .of_eq rfl rfl rfl rfl

theorem State.couplingsCleared_uncoupled (s : State) (c : Fin 32) : s.couplingsCleared.couplings.rows.get c = none :=
  Tab.get_fill none c

/-- The summary periods aside, every coupling is as at reset. -/
theorem State.quiet_couplingsCleared (s : State) : s.couplingsCleared.quiet = State.quiet { s with
    couplings := { s.couplings with rows := Tab.fill 32 none, recs := Tab.fill 32 (CoupRec.reset 0) } } := by
  have hrecs : (s.couplings.recs.map fun r => CoupRec.reset r.summaryAt).map CoupRec.core
      = (Tab.fill 32 (CoupRec.reset 0)).map CoupRec.core := by
    refine Tab.ext_get fun c => ?_
    rw [Tab.get_map, Tab.get_map, Tab.get_map, Tab.get_fill]
    rfl
  unfold State.quiet State.couplingsCleared
  dsimp only
  rw [hrecs]

/-- R80, R106: TENSION posted for both boats, and the reach of every actuator tested. -/
def State.retested (s : State) : State :=
  forEach (indices 8) State.retestReach ((s.postTension .main).postTension .assist)

theorem State.clearCouplings_of_loadable {s : State} (m : List Byte)
    (h : ∀ c, s.couplings.rows.get c ≠ none → (s.coup c).state.loadable = true) :
    s.clearCouplings m = s.couplingsCleared.retested.done := by
  refine if_neg ?_
  rw [Bool.not_eq_true, any_indices_eq_false]
  intro c
  have hloadable : s.couplings.rows.get c ≠ none → (s.couplings.recs.get c).state.loadable = true := h c
  cases hrow : s.couplings.rows.get c with
  | none => rfl
  | some row => simp [hloadable (by simp [hrow])]

/-- R79, R80: with no coupling loaded TENSION is removed. -/
theorem State.tensionEntry_of_uncoupled {s : State} (h : ∀ c, s.couplings.rows.get c = none) (b : Boat) :
    s.tensionEntry b = none := by
  have hcontribution : ∀ c, s.contribution b c = none := fun c => by simp only [State.contribution, h c]
  have hderate : s.boatDerate b = 1000 := by
    rw [State.boatDerate, List.filterMap_eq_nil_iff.mpr fun c _ => hcontribution c]
    rfl
  rw [State.tensionEntry, hderate]
  rfl

/-- The entries of a lane without TENSION. -/
def Ceilings.slack (c : Ceilings) : Ceilings := { c with tension := none }

theorem State.postTension_of_uncoupled {s : State} (h : ∀ c, s.couplings.rows.get c = none) (b : Boat) :
    s.postTension b = s.postCeilings (fun row => row.boat == b) fun _ c => c.slack := by
  rw [State.postTension, State.tensionEntry_of_uncoupled h]
  rfl

theorem countP_add_countP_le {α : Type} {p q : α → Bool} (h : ∀ x, p x = true → q x = true → False) (xs : List α) :
    xs.countP p + xs.countP q ≤ xs.length := by
  induction xs with
  | nil => exact Nat.le_refl 0
  | cons x xs ih =>
    rw [List.countP_cons, List.countP_cons, List.length_cons]
    split
    · next hp =>
      rw [if_neg fun hq => h x hp hq]
      omega
    · split <;> omega

/-- A loaded lane belongs to one boat. -/
theorem countP_boats_le (rows : Tab 4 (Option LaneRow)) :
    (indices 4).countP (fun l => (rows.get l).any fun row => row.boat == .main)
      + (indices 4).countP (fun l => (rows.get l).any fun row => row.boat == .assist) ≤ 4 := by
  refine countP_add_countP_le (fun l hmain hassist => ?_) (indices 4)
  cases hrow : rows.get l with
  | none => simp [hrow] at hmain
  | some row =>
    rw [hrow, Option.any_some, beq_iff_eq] at hmain hassist
    cases hmain.symm.trans hassist

/-- TENSION removed from the lanes of both boats. -/
theorem State.slackened {s : State} (h : ∀ c, s.couplings.rows.get c = none) :
    Posts 20 s ((s.postTension .main).postTension .assist)
      ∧ ∀ l row, s.lanes.rows.get l = some row →
        ((s.postTension .main).postTension .assist).lanes.ceils.get l = (s.lanes.ceils.get l).slack := by
  obtain ⟨hmain, hmainEntries⟩ := Posts.postCeilings (fun row => row.boat == .main) (fun _ c => c.slack) s
  rw [← State.postTension_of_uncoupled h] at hmain hmainEntries
  have h' : ∀ c, (s.postTension .main).couplings.rows.get c = none := by rwa [hmain.coupRows]
  obtain ⟨hassist, hassistEntries⟩ :=
    Posts.postCeilings (fun row => row.boat == .assist) (fun _ c => c.slack) (s.postTension .main)
  rw [← State.postTension_of_uncoupled h', hmain.laneRows] at hassist hassistEntries
  have hcount := countP_boats_le s.lanes.rows
  refine ⟨(hmain.trans hassist).mono (by omega), fun l row hrow => ?_⟩
  rw [hassistEntries, hmainEntries, hrow]
  cases hboat : row.boat <;> simp [postedEntries, hboat]

/-- What the postings and the tests of reach leave once the coupling table is empty. -/
theorem State.retestedCouplings (s : State) :
    Steers [.actuatorUnreachable] 28 s.couplingsCleared s.couplingsCleared.retested
      ∧ (∀ l row, s.lanes.rows.get l = some row →
          s.couplingsCleared.retested.lanes.ceils.get l = (s.lanes.ceils.get l).slack)
      ∧ ∀ a row, s.steering.rows.get a = some row → row.path ≠ [] → (s.act a).state = .tracking →
          (s.couplingsCleared.retested.act a).state = .unreachable := by
  obtain ⟨hposts, hentries⟩ := State.slackened s.couplingsCleared_uncoupled
  have hretests : Retests 8 _ s.couplingsCleared.retested := Retests.forEach (is := indices 8) _
  have hposted := hposts.toSteers.mono (es' := [.actuatorUnreachable]) (fun e he => absurd he List.not_mem_nil)
    (Nat.le_refl 20)
  refine ⟨hposted.trans hretests.toSteers, fun l row hrow => ?_, fun a row hrow hpath htracking => ?_⟩
  · rw [hretests.ceils]
    exact hentries l row hrow
  · refine State.act_forEach_retestReach (row := row) ?_ ?_ hpath (.inr ⟨mem_indices a, ?_⟩)
    · rw [hposts.coupRows]
      exact s.couplingsCleared_uncoupled
    · rw [hposts.actRows]
      exact hrow
    · rw [hposts.act]
      exact htracking

end Sys2Proof.Machine

open Sys2Proof Sys2Proof.Machine

/-- Settles O19: a table whose clearing queues nothing is its owner's answer; for the tank and the coupling table ceilings are
posted and reach is tested, and the orders that this queues on B leave room for the reply. -/
theorem clearTableEmptiesTheTable : Obligations.ClearTableEmptiesTheTable := by
  unfold Obligations.ClearTableEmptiesTheTable
  refine ⟨fun t source m s s2 => ⟨fun h => ?routes, fun h hprop hsteer => ?stations, fun h hcommand => ?inCommand,
    fun h hloadable => ?lanes, fun l h hrow hunsynced hstopped hfault => ?laneBusy, fun h h0 h1 => ?groups,
    fun g h hmember => ?groupBusy, fun h hidle => ?actuators, fun a h htracking => ?actuatorBusy,
    fun b h hb => ⟨fun hstandby => ?bank, fun hactive => ?bankBusy⟩, fun h hactive hwaiting => ?channels,
    fun hoccupied => ⟨fun h => ?channelsBusy, fun h => ?tanksBusy⟩,
    fun c h hrow hunsynced hreleased hfault => ?couplingBusy⟩,
    fun t source m s s2 => ⟨fun h hactive hwaiting => ?tanks, fun h hloadable => ?couplings⟩⟩
  case routes => exact served_of_done h rfl nofun rfl (.setRoutes _ s2) rfl
  case stations =>
    exact served_of_done h rfl nofun (State.clearStations_of_idle m hprop hsteer) (.of_eq rfl rfl rfl rfl) rfl
  case inCommand => exact refused_of_refuses h rfl nofun (State.clearStations_of_command m hcommand)
  case lanes =>
    exact served_of_done h rfl nofun (State.clearLanes_of_loadable m fun l hl => LaneState.loadable_iff.mpr (hloadable l hl))
      (.clearedLanes s2) (State.quiet_clearedLanes s2)
  case laneBusy =>
    have hbusy : (s2.lane l).state.loadable = false := by
      rw [← Bool.not_eq_true, LaneState.loadable_iff]
      simp [hunsynced, hstopped, hfault]
    exact refused_of_refuses h rfl nofun (State.clearLanes_of_busy m hrow hbusy)
  case groups => exact served_of_done h rfl nofun (State.clearGroups_of_empty m h0 h1) (.of_eq rfl rfl rfl rfl) rfl
  case groupBusy => exact refused_of_refuses h rfl nofun (State.clearGroups_of_member m hmember)
  case actuators => exact served_of_done h rfl nofun (State.clearActuators_of_idle m hidle) (.of_eq rfl rfl rfl rfl) rfl
  case actuatorBusy => exact refused_of_refuses h rfl nofun (State.clearActuators_of_tracking m htracking)
  case bank =>
    refine served_of_done h rfl nofun (State.clearBank_of_standby (bankOf_eq hb) hstandby) (.of_eq rfl rfl rfl rfl) ?_
    cases b <;> rfl
  case bankBusy => exact refused_of_refuses h rfl nofun (State.clearBank_of_active (bankOf_eq hb) hactive)
  case channels =>
    exact served_of_done h rfl nofun (State.clearChannels_of_idle m (State.slotsOccupied_of_none hactive hwaiting))
      (.of_eq rfl rfl rfl rfl) rfl
  case channelsBusy =>
    exact refused_of_refuses h rfl nofun (State.clearChannels_of_occupied m (State.slotsOccupied_iff.mpr hoccupied))
  case tanksBusy =>
    exact refused_of_refuses h rfl nofun (State.clearTanks_of_occupied m (State.slotsOccupied_iff.mpr hoccupied))
  case couplingBusy =>
    have hbusy : (s2.coup c).state.loadable = false := by
      rw [← Bool.not_eq_true, CoupState.loadable_iff]
      simp [hunsynced, hreleased, hfault]
    exact refused_of_refuses h rfl nofun (State.clearCouplings_of_busy m hrow hbusy)
  case tanks =>
    obtain ⟨hposts, hentries⟩ := Posts.postCeilings (fun _ => true) (fun _ c => c.unreserved) s2.tanksCleared
    have hcount : 5 * (indices 4).countP (fun l => (s2.tanksCleared.lanes.rows.get l).any fun _ => true) ≤ 28 := by
      have hle := List.countP_le_length (p := fun l => (s2.tanksCleared.lanes.rows.get l).any fun _ => true)
        (l := indices 4)
      have hlength : (indices 4).length = 4 := rfl
      omega
    obtain ⟨v, hexec, hnow, hflags, hreplies, hless, hceils, -⟩ := answers_of_steers h rfl nofun
      (State.clearTanks_of_idle m (State.slotsOccupied_of_none hactive hwaiting)) (.tanksCleared s2)
      hposts.toSteers hcount
    refine ⟨v, hexec, hnow, hflags, hreplies, hless, fun l r hrow => ?_⟩
    have hrow' : s2.tanksCleared.lanes.rows.get l = some r := hrow
    rw [hceils, hentries, hrow']
    rfl
  case couplings =>
    obtain ⟨hsteers, hentries, hreach⟩ := State.retestedCouplings s2
    obtain ⟨v, hexec, hnow, hflags, hreplies, hless, hceils, hacts⟩ := answers_of_steers h rfl nofun
      (State.clearCouplings_of_loadable m fun c hc => CoupState.loadable_iff.mpr (hloadable c hc)) (.couplingsCleared s2)
      hsteers (Nat.le_refl 28)
    refine ⟨v, hexec, hnow, hflags, hreplies, hless.trans ?_, fun l r hrow => ?_, fun a r hrow hpath htracking => ?_⟩
    · exact State.lessDrive_congr (congrArg (State.setArming none) s2.quiet_couplingsCleared)
    · rw [hceils]
      exact hentries l r hrow
    · rw [hacts]
      exact hreach a r hrow hpath htracking
end

section
/-!
PROOFS. The blocks beside the frame switch and the management block: queueing frames and raising events leaves them as they
are (R7, R26, R163), and so lane records and ceilings are written by their own operations alone.
-/

namespace Sys2Proof.Machine

/-! ## What queueing and raising leave -/

/-- The state with the frame switch and the management block as at reset. -/
def State.blocks (s : State) : State := { s with switch := State.reset.switch, mgmt := State.reset.mgmt }

@[simp] theorem State.blocks_enqueue (p : Port) (o : Origin) (f : CmsFrame) (s : State) :
    (s.enqueue p o f).blocks = s.blocks := by
  cases p <;> rfl

@[simp] theorem State.blocks_latch (e : Event) (d : Option Nat) (s : State) : (s.latch e d).blocks = s.blocks := rfl

@[simp] theorem State.blocks_raiseCongested (p : Port) (s : State) : (s.raiseCongested p).blocks = s.blocks := by
  unfold State.raiseCongested
  dsimp only
  split
  · split <;> simp
  · simp

@[simp] theorem State.blocks_offer (p : Port) (o : Origin) (f : CmsFrame) (s : State) :
    (s.offer p o f).blocks = s.blocks := by
  unfold State.offer
  split <;> simp

@[simp] theorem State.blocks_raise (e : Event) (d : Option Nat) (s : State) : (s.raise e d).blocks = s.blocks := by
  unfold State.raise State.raiseWith
  dsimp only
  split <;> simp

@[simp] theorem State.blocks_originate (p : Port) (k : MsgKind) (target : Nat) (data : List Byte) (s : State) :
    (s.originate p k target data).blocks = s.blocks := State.blocks_offer _ _ _ _

@[simp] theorem State.blocks_order (p : Port) (k : MsgKind) (target : Nat) (data : List Byte) (s : State) :
    (s.order p k target data).blocks = s.blocks := by
  unfold State.order
  split <;> simp

@[simp] theorem State.blocks_originateAll (p : Port) (fs : List CmsFrame) (s : State) :
    (s.originateAll p fs).blocks = s.blocks := by
  induction fs generalizing s with
  | nil => rfl
  | cons f fs ih =>
    rw [State.originateAll_cons]
    split <;> simp [ih]

/-- The lanes are one of these blocks. -/
theorem State.lanes_of_blocks {s t : State} (h : t.blocks = s.blocks) : t.lanes = s.lanes :=
  congrArg (fun u => u.lanes) h

/-! ## The lanes after one record is written (R74, R100, R124) -/

theorem State.lanes_putCoup (c : Fin 32) (r : CoupRec) (s : State) : (s.putCoup c r).lanes = s.lanes := by
  unfold State.putCoup
  dsimp only
  split <;> rfl

theorem State.lanes_refuseOrder (source : Nat) (o : CoupOrder) (c : Option (Fin 32)) (why : CoupReason) (s : State) :
    (s.refuseOrder source o c why).lanes = s.lanes := by
  unfold State.refuseOrder
  dsimp only
  rw [State.lanes_of_blocks (State.blocks_raise _ _ _)]
  cases c with
  | none => rfl
  | some c => exact State.lanes_putCoup c _ _

theorem State.lanes_abandonRelease (c : Fin 32) (s : State) : (s.abandonRelease c).lanes = s.lanes := by
  unfold State.abandonRelease
  split
  · rfl
  · dsimp only
    rw [State.lanes_refuseOrder, State.winchOrder, State.lanes_of_blocks (State.blocks_order _ _ _ _ _),
      State.lanes_putCoup]

theorem State.lanes_abandonReleases (b : Boat) (s : State) : (s.abandonReleases b).lanes = s.lanes := by
  refine forAll_keeps (P := fun t => t.lanes = s.lanes) (fun c t h => ?_) rfl
  split
  · exact (State.lanes_abandonRelease c t).trans h
  · exact h

/-- A lane record written leaves every other lane record, and the rows and ceilings of all. -/
theorem State.lanes_putLane (l : Fin 4) (r : LaneRec) (s : State) :
    (s.putLane l r).lanes = { s.lanes with recs := s.lanes.recs.set l r } := by
  unfold State.putLane
  dsimp only
  split
  · rfl
  · split
    · split
      · rw [State.lanes_abandonReleases, State.lanes_evaluateLane]
        rfl
      · exact State.lanes_evaluateLane l _
    · exact State.lanes_evaluateLane l _

theorem State.lane_putLane (l l' : Fin 4) (r : LaneRec) (s : State) :
    (s.putLane l r).lane l' = if l' = l then r else s.lane l' := by
  rw [State.lane, State.lanes_putLane]
  exact Tab.get_set _ _ _ _

/-! ## Targets are left to demands (R66, R89) -/

/-- From `s` to `t` no lane's target changes. -/
def TargetsKept (s t : State) : Prop :=
  ∀ l, (t.lane l).targetDir = (s.lane l).targetDir ∧ (t.lane l).targetSpeed = (s.lane l).targetSpeed

theorem TargetsKept.refl (s : State) : TargetsKept s s := fun _ => ⟨rfl, rfl⟩

theorem TargetsKept.trans {s t u : State} (h : TargetsKept s t) (g : TargetsKept t u) : TargetsKept s u :=
  fun l => ⟨(g l).1.trans (h l).1, (g l).2.trans (h l).2⟩

theorem TargetsKept.of_lanes {s t : State} (h : t.lanes.recs = s.lanes.recs) : TargetsKept s t := fun l => by
  rw [State.lane, State.lane, h]
  exact ⟨rfl, rfl⟩

theorem TargetsKept.of_blocks {s t : State} (h : t.blocks = s.blocks) : TargetsKept s t :=
  .of_lanes (congrArg (fun u => u.lanes.recs) h)

/-- A lane record written with the lane's own target. -/
theorem TargetsKept.putLane {l : Fin 4} {r : LaneRec} {s : State} (hdir : r.targetDir = (s.lane l).targetDir)
    (hspeed : r.targetSpeed = (s.lane l).targetSpeed) : TargetsKept s (s.putLane l r) := fun l' => by
  rw [State.lane_putLane]
  split
  · next h => subst h; exact ⟨hdir, hspeed⟩
  · exact ⟨rfl, rfl⟩

theorem TargetsKept.orderLane (l : Fin 4) (row : LaneRow) (s : State) : TargetsKept s (s.orderLane l row) := by
  have hput : TargetsKept s (s.putLane l { s.lane l with refreshTimer := some (s.now + row.refresh) }) := .putLane rfl rfl
  unfold State.orderLane State.governorOrder
  exact relation_cond (hput.trans (.of_blocks (State.blocks_order _ _ _ _ _))) (.refl s)

theorem TargetsKept.declutch (l : Fin 4) (row : LaneRow) (s : State) : TargetsKept s (s.declutch l row) := by
  unfold State.declutch
  refine TargetsKept.trans ?_ (.orderLane l row _)
  exact .putLane rfl rfl

theorem TargetsKept.writeSetpoint (l : Fin 4) (row : LaneRow) (v : Nat) (s : State) :
    TargetsKept s (s.writeSetpoint l row v) := by
  have hput : TargetsKept s (s.putLane l { s.lane l with setpoint := v }) := .putLane rfl rfl
  unfold State.writeSetpoint
  exact relation_cond (.refl s) (relation_cond (hput.trans (.declutch l row _)) (hput.trans (.orderLane l row _)))

theorem TargetsKept.forEach {ι : Type} {is : List ι} {f : ι → State → State} (h : ∀ i s, TargetsKept s (f i s))
    (s : State) : TargetsKept s (forEach is f s) := by
  induction is generalizing s with
  | nil => exact .refl s
  | cons i is ih => exact (h i s).trans (ih (f i s))

theorem TargetsKept.movePoint (g : Fin 2) (v : Nat) (s : State) : TargetsKept s (s.movePoint g v) := by
  have hput : TargetsKept s (s.putGroup g { s.groups.recs.get g with point := v }) := .of_lanes rfl
  unfold State.movePoint
  refine relation_cond (.refl s) (hput.trans (.forEach (fun l s => ?_) _))
  split
  · exact .writeSetpoint l _ v s
  · exact .refl s

theorem TargetsKept.cutPoint (g : Fin 2) (s : State) : TargetsKept s (s.cutPoint g) := by
  unfold State.cutPoint
  split
  · exact relation_cond (.movePoint g _ s) (.refl s)
  · exact .refl s

theorem TargetsKept.applyCeiling (l : Fin 4) (s : State) : TargetsKept s (s.applyCeiling l) := by
  unfold State.applyCeiling
  split
  · exact .refl s
  · next row _ =>
    have hpoint : TargetsKept s (if (s.lane l).inStep then
        match row.home with
        | some g => s.cutPoint g
        | none => s
      else s) := by
      refine relation_cond ?_ (.refl s)
      split
      · exact .cutPoint _ s
      · exact .refl s
    exact relation_cond (relation_cond (hpoint.trans (.writeSetpoint l row _ _)) hpoint) (.refl s)

/-- An entry posted on the ceilings cuts setpoints and group points alone. -/
theorem TargetsKept.postCeilings (on : LaneRow → Bool) (f : LaneRow → Ceilings → Ceilings) (s : State) :
    TargetsKept s (s.postCeilings on f) := by
  refine .forEach (fun l s => ?_) s
  split
  · next row _ =>
    have hset : TargetsKept s { s with lanes := { s.lanes with
        ceils := s.lanes.ceils.set l (f row (s.lanes.ceils.get l)) } } := .of_lanes rfl
    exact relation_cond (hset.trans (.applyCeiling l _)) (.refl s)
  · exact .refl s

end Sys2Proof.Machine
end

section
/-!
PROOFS. Demand intake (chapter 3): how an event ends that queues nothing of its own, a refusal recorded, the record of a job
written, lost and lifted, and the tests of a demand (O28; R34 to R37, R42 to R44).
-/

namespace Sys2Proof.Machine

/-! ## Events that queue nothing of their own -/

section
variable {c : Instr} {s s1 w w' : State}

/-- An effect that queues nothing and raises nothing, as the event ends. -/
theorem becomes_of_silent_effect (hexec : exec c s = .next w'.flush) (h : Silent s1 w') (hquiet : w'.quiet = w.quiet) :
    Becomes c s s1 w [] (QueuesNothing s1) :=
  ⟨_, hexec, (h.looksLike (.flush w') (State.quiet_flush w')).congr hquiet, h.queuesNothing (.flush w')⟩

/-- One event raised after an effect that keeps the clock and the flags. -/
theorem looksLike_raise_flush {e : Event} {d : Option Nat} (he : e ≠ .portCongested) (hnow : w'.now = s1.now)
    (hflags : FlagsKept s1 w' []) (hquiet : w'.quiet = w.quiet) :
    LooksLike s1 w (w'.raise e d).flush [e] ∧ Raised s1 (w'.raise e d).flush e d := by
  have hraise := Notified.raise_flush he d w'
  refine ⟨⟨hraise.now.trans hnow, ?quiet, fun e' he' hmem => ?kept⟩, ?raised⟩
  case quiet => rw [State.quiet_flush, State.quiet_raise, hquiet]
  case kept => exact (hraise.flags e' he' hmem).trans (hflags e' he' List.not_mem_nil)
  case raised => rw [Raised, State.raise_flush_flag he, hflags e he List.not_mem_nil]

theorem Silent.flagsKept (h : Silent s1 w') : FlagsKept s1 w' [] := fun e _ _ => h.flag e

/-- An effect that queues nothing and raises one event, as the event ends. -/
theorem becomes_of_raised_effect {e : Event} {d : Option Nat} (he : e ≠ .portCongested)
    (hexec : exec c s = .next (w'.raise e d).flush) (h : Silent s1 w') (hquiet : w'.quiet = w.quiet) :
    Becomes c s s1 w [e] fun u => QueuesNothing s1 u ∧ Raised s1 u e d := by
  obtain ⟨hlooks, hraised⟩ := looksLike_raise_flush (d := d) he h.now h.flagsKept hquiet
  exact ⟨_, hexec, hlooks, h.queuesNothing (.raise_flush he d w'), hraised⟩
end

/-- A `Becomes` with less said of the answer. -/
theorem Becomes.imp {c : Instr} {s s1 w : State} {es : List Event} {P Q : State → Prop} (h : Becomes c s s1 w es P)
    (himp : ∀ u, P u → Q u) : Becomes c s s1 w es Q := by
  obtain ⟨u, hexec, hlooks, hu⟩ := h
  exact ⟨u, hexec, hlooks, himp u hu⟩

/-! ## A refusal recorded (R35) -/

/-- The last refusal record written, and nothing else. -/
def State.noteRefusal (source : Nat) (k : MsgKind) (why : Reason) (o : Object) (s : State) : State :=
  { s with intake := { s.intake with lastRefusal := some { source := source, kind := k, reason := why, object := o } } }

theorem State.refuseDemand_eq (source : Nat) (k : MsgKind) (why : Reason) (o : Object) (s : State) :
    s.refuseDemand source k why o = (s.noteRefusal source k why o).raise .demandRefused (some source) := rfl

theorem State.quiet_noteRefusal (source : Nat) (k : MsgKind) (why : Reason) (o : Object) (s : State) :
    (s.noteRefusal source k why o).quiet = s.quiet.noteRefusal source k why o := rfl

theorem Silent.noteRefusal (source : Nat) (k : MsgKind) (why : Reason) (o : Object) (s : State) :
    Silent s (s.noteRefusal source k why o) := .of_eq rfl rfl rfl rfl

theorem Silent.countRefusal (i : Fin 4) (s : State) : Silent s (s.countRefusal i) := .of_eq rfl rfl rfl rfl

theorem Event.demandRefused_ne_portCongested : Event.demandRefused ≠ .portCongested := nofun

/-- A demand, take or order refused after an effect that queues nothing and raises nothing. -/
theorem becomes_of_refused_demand {c : Instr} {s s1 w w' : State} {source : Nat} {k : MsgKind} {why : Reason} {o : Object}
    (hexec : exec c s = .next (w'.refuseDemand source k why o).flush) (h : Silent s1 w') (hquiet : w'.quiet = w.quiet) :
    Becomes c s s1 (w.noteRefusal source k why o) [.demandRefused]
      fun u => QueuesNothing s1 u ∧ Raised s1 u .demandRefused (some source) :=
  becomes_of_raised_effect (w' := w'.noteRefusal source k why o) Event.demandRefused_ne_portCongested hexec
    (h.trans (.noteRefusal source k why o w'))
    (by rw [State.quiet_noteRefusal, State.quiet_noteRefusal, hquiet])

/-! ## The record of a job (section 3.4) -/

section
variable (j : Job) (r r' : JobRec) (s : State)

theorem State.putJob_eq : s.putJob j r = if (s.job j).loss = r.loss then s.setJob j r else (s.setJob j r).dueCommand := by
  cases j <;> rfl

theorem State.quiet_setJob : (s.setJob j r).quiet = s.quiet.setJob j r := by
  cases j <;> rfl

theorem State.setJob_setJob : (s.setJob j r).setJob j r' = s.setJob j r' := by
  cases j <;> rfl

theorem Silent.setJob : Silent s (s.setJob j r) := by
  cases j <;> exact .of_eq rfl rfl rfl rfl

theorem Silent.dueCommand : Silent s s.dueCommand := .of_eq rfl rfl rfl rfl

theorem Silent.putJob : Silent s (s.putJob j r) := by
  rw [State.putJob_eq]
  exact relation_cond (.setJob j r s) ((Silent.setJob j r s).trans (.dueCommand _))

@[simp] theorem State.quiet_putJob : (s.putJob j r).quiet = (s.setJob j r).quiet := by
  rw [State.putJob_eq]
  split <;> rfl

@[simp] theorem State.job_putJob : (s.putJob j r).job j = r := by
  rw [State.putJob_eq]
  split <;> cases j <;> rfl

theorem State.intake_putJob : (s.putJob j r).intake = (s.setJob j r).intake := by
  rw [State.putJob_eq]
  split <;> rfl

theorem State.lanes_putJob : (s.putJob j r).lanes = s.lanes := by
  rw [State.putJob_eq]
  split <;> cases j <;> rfl

theorem State.quiet_putJob_putJob : ((s.putJob j r).putJob j r').quiet = (s.setJob j r').quiet := by
  rw [State.quiet_putJob, State.quiet_setJob, State.quiet_putJob, State.quiet_setJob, State.setJob_setJob,
    State.quiet_setJob]
end

/-! ## An entry posted on every loaded lane (R43, R44) -/

theorem Posts.postOnEvery (f : LaneRow → Ceilings → Ceilings) (s : State) : Posts 20 s (s.postCeilings (fun _ => true) f)
    ∧ ∀ l row, s.lanes.rows.get l = some row →
      (s.postCeilings (fun _ => true) f).lanes.ceils.get l = f row (s.lanes.ceils.get l) := by
  obtain ⟨hposts, hentries⟩ := Posts.postCeilings (fun _ => true) f s
  refine ⟨hposts.mono ?_, fun l row hrow => (hentries l).trans (by rw [hrow]; rfl)⟩
  have hle := List.countP_le_length (p := fun l => (s.lanes.rows.get l).any fun _ => true) (l := indices 4)
  have hlength : (indices 4).length = 4 := rfl
  omega

/-! ## A loss lifted (R44) -/

/-- A job's record replaced and the job ATTENDED, COMMAND_LOSS still posted. -/
def State.attend (j : Job) (r : JobRec) (s : State) : State := (s.putJob j r).putJob j { r with loss := .attended }

section
variable (j : Job) (r : JobRec) (s : State)

theorem Silent.attend : Silent s (s.attend j r) := (Silent.putJob j r s).trans (.putJob j _ _)

theorem State.quiet_attend : (s.attend j r).quiet = (s.setJob j { r with loss := .attended }).quiet :=
  State.quiet_putJob_putJob j r _ s

theorem State.lanes_attend : (s.attend j r).lanes = s.lanes := (State.lanes_putJob _ _ _).trans (State.lanes_putJob _ _ _)

theorem State.lift_putJob : (s.putJob j r).lift j =
    if j = .prop ∧ r.loss = .lost then (s.attend j r).removeLoss else s.attend j r := by
  unfold State.lift State.attend
  rw [State.job_putJob]
  dsimp only
  cases j with
  | steer => rfl
  | prop => cases r.loss <;> rfl

/-- R44: only a PROP job that was LOST has COMMAND_LOSS to lift. -/
theorem State.lift_putJob_of_kept (h : ¬ (j = .prop ∧ r.loss = .lost)) : (s.putJob j r).lift j = s.attend j r := by
  rw [State.lift_putJob, if_neg h]

/-- The entries of a lane without COMMAND_LOSS. -/
def Ceilings.attended (c : Ceilings) : Ceilings := { c with commandLoss := none }

/-- R44: COMMAND_LOSS removed from every loaded lane. -/
theorem Posts.removeLoss : Posts 20 s s.removeLoss ∧ ∀ l row, s.lanes.rows.get l = some row →
    s.removeLoss.lanes.ceils.get l = (s.lanes.ceils.get l).attended :=
  Posts.postOnEvery (fun _ c => c.attended) s

/-- A job ATTENDED again, with what it has to lift lifted. -/
theorem Posts.lift_putJob : Posts 20 (s.attend j r) ((s.putJob j r).lift j) := by
  rw [State.lift_putJob]
  split
  · exact (Posts.removeLoss _).1
  · exact (Posts.refl _).mono (Nat.zero_le 20)

theorem State.now_lift_putJob : ((s.putJob j r).lift j).now = s.now :=
  (Posts.lift_putJob j r s).now.trans (Silent.attend j r s).now

theorem FlagsKept.lift_putJob : FlagsKept s ((s.putJob j r).lift j) [] := fun e he hmem =>
  ((Posts.lift_putJob j r s).flags e he hmem).trans ((Silent.attend j r s).flag e)

theorem State.lessDrive_lift_putJob :
    ((s.putJob j r).lift j).lessDrive = (s.setJob j { r with loss := .attended }).lessDrive :=
  (Posts.lift_putJob j r s).lessDrive.trans (State.lessDrive_congr (State.quiet_attend j r s))

variable {r}

theorem State.ceils_lift_putJob_of_lost (h : r.loss = .lost) {l : Fin 4} {row : LaneRow}
    (hrow : s.lanes.rows.get l = some row) :
    ((s.putJob .prop r).lift .prop).lanes.ceils.get l = (s.lanes.ceils.get l).attended := by
  rw [State.lift_putJob, if_pos ⟨rfl, h⟩]
  have hlanes := State.lanes_attend .prop r s
  rw [(Posts.removeLoss (s.attend .prop r)).2 l row (by rw [hlanes, hrow]), hlanes]
end

/-! ## The tests of a demand (R34, R37) -/

section
variable {s : State} {k : MsgKind} {j : Job} {pass : State → State} {q : Received}

theorem State.takeDemand_of_unknown (h : s.stationOf q.frame.id.source.toNat = none) : s.takeDemand k j pass q =
    s.refuseDemand q.frame.id.source.toNat k .noRight (demandObject k q.frame.data) := by
  simp only [State.takeDemand, h]

variable {i : Fin 4} {row : StationRow} (hi : s.stationOf q.frame.id.source.toNat = some i)
  (hrow : s.intake.stations.get i = some row)
include hi hrow

theorem State.takeDemand_of_rightless (h : row.holds j = false) : s.takeDemand k j pass q =
    (s.countRefusal i).refuseDemand q.frame.id.source.toNat k .noRight (demandObject k q.frame.data) := by
  simp only [State.takeDemand, hi, hrow, h, if_true]

theorem State.takeDemand_of_outsider (h : row.holds j = true) (hother : (s.job j).station ≠ some i) :
    s.takeDemand k j pass q =
      (s.countRefusal i).refuseDemand q.frame.id.source.toNat k .notInCommand (demandObject k q.frame.data) := by
  simp only [State.takeDemand, hi, hrow, h, if_pos hother, Bool.true_eq_false, if_false]

theorem State.takeDemand_of_laidUp (h : row.holds j = true) (hown : (s.job j).station = some i)
    (hmode : s.mgmt.mode = .laidUp) : s.takeDemand k j pass q =
      (s.hear j q.arrival).refuseDemand q.frame.id.source.toNat k .laidUp (demandObject k q.frame.data) := by
  simp only [State.takeDemand, hi, hrow, h, hown, hmode, Bool.true_eq_false, ne_eq, not_true, if_true, if_false]
end

theorem State.owned_of_demand {k : MsgKind}
    (h : k ∈ [MsgKind.speedDemand, .groupDemand, .neutralDemand, .kickDemand, .crashAstern, .helmDemand]) (q : Received)
    (s : State) : ∃ pass, s.owned k q = s.takeDemand k (if k = .helmDemand then .steer else .prop) pass q := by
  simp only [List.mem_cons, List.not_mem_nil, or_false] at h
  rcases h with rfl | rfl | rfl | rfl | rfl | rfl <;> exact ⟨_, rfl⟩

end Sys2Proof.Machine

open Sys2Proof Sys2Proof.Machine

/-- Settles O28: each test of R34 is a branch of `State.takeDemand`, and `State.hear` is an ATTENDED record with COMMAND_LOSS
lifted where it was posted. -/
theorem demandsAreTestedForRightAndCommand : Obligations.DemandsAreTestedForRightAndCommand := by
  unfold Obligations.DemandsAreTestedForRightAndCommand
  refine ⟨fun t p s s1 k q h hk => ?tests, fun s j arrival => ⟨fun hkept => ?kept, ?lessDrive,
    fun hj hlost l row hrow => ?lifted, FlagsKept.lift_putJob j _ s⟩⟩
  case tests =>
    intro source j object refused counted noted
    have hobject : demandObject k q.frame.data = object := by
      simp only [List.mem_cons, List.not_mem_nil, or_false] at hk
      rcases hk with rfl | rfl | rfl | rfl | rfl | rfl <;> rfl
    obtain ⟨pass, howned⟩ : ∃ pass, s1.owned k q = s1.takeDemand k j pass q := State.owned_of_demand hk q s1
    have hexec := exec_classifyFrame_of_delivery h
    rw [howned] at hexec
    clear_value object
    subst hobject
    refine ⟨fun hnone => ?unknown, fun i row hi hrow hright => ?rightless, fun i row hi hrow hright hother => ?outsider,
      fun i row hi hrow hright hown hmode => ?laidUp⟩
    case unknown =>
      rw [State.takeDemand_of_unknown hnone] at hexec
      exact becomes_of_refused_demand hexec (.refl s1) rfl
    case rightless =>
      rw [State.takeDemand_of_rightless hi hrow hright] at hexec
      exact becomes_of_refused_demand hexec (.countRefusal i s1) rfl
    case outsider =>
      rw [State.takeDemand_of_outsider hi hrow hright hother] at hexec
      exact becomes_of_refused_demand hexec (.countRefusal i s1) rfl
    case laidUp =>
      rw [State.takeDemand_of_laidUp hi hrow hright hown hmode, State.refuseDemand_eq] at hexec
      exact ⟨_, hexec, looksLike_raise_flush Event.demandRefused_ne_portCongested (State.now_lift_putJob j _ s1)
        (FlagsKept.lift_putJob j _ s1) rfl⟩
  case kept =>
    have hattend : s.hear j arrival = s.attend j { s.job j with lastHeard := some arrival } :=
      State.lift_putJob_of_kept j _ s fun ⟨hj, hlost⟩ => hkept ⟨hj, by subst hj; exact hlost⟩
    rw [hattend, State.quiet_attend]
  case lessDrive => exact State.lessDrive_lift_putJob j _ s
  case lifted =>
    subst hj
    exact State.ceils_lift_putJob_of_lost (r := { s.job .prop with lastHeard := some arrival }) s hlost hrow
end

section
/-!
PROOFS. Silence, release and loss of a job (O29; R41 to R43).
-/

namespace Sys2Proof.Machine

/-! ## Codes of a delivered frame (R6, R168) -/

theorem State.handable_of_deliver {s s1 : State} {p : Port} {q q1 : Received} {k : MsgKind}
    (h : s.deliver p q = .delivered k q1 s1) : handable k q1.frame.data = true := by
  unfold State.deliver at h
  split at h
  · nomatch h
  · split at h
    · nomatch h
    · split at h
      · nomatch h
      · next hok =>
        split at h
        · nomatch h
        · cases h
          exact Bool.not_eq_false _ ▸ hok

theorem State.handable_of_delivery {t : Nat} {s s1 : State} {p : Port} {q : Received} {k : MsgKind}
    (h : s.delivery t p = some (k, q, s1)) : handable k q.frame.data = true := by
  obtain ⟨-, hhead⟩ := State.delivery_iff.mp h
  unfold State.sortHead at hhead
  split at hhead
  · nomatch hhead
  · have hsort := Option.some.inj hhead
    unfold State.sort at hsort
    split at hsort
    · nomatch hsort
    · nomatch hsort
    · dsimp only at hsort
      split at hsort
      · exact State.handable_of_deliver hsort
      · nomatch hsort
    · dsimp only at hsort
      split at hsort
      · exact State.handable_of_deliver hsort
      · nomatch hsort
    · nomatch hsort

/-- A listed job code is 0 or 1. -/
theorem demandJob_of_listed {d : List Byte} (h : (jobOfCode (u8 d 0)).isSome = true) :
    demandJob d = if u8 d 0 = 0 then .prop else .steer := by
  unfold demandJob
  unfold jobOfCode at h ⊢
  split at h
  · next hcode => rw [hcode]; rfl
  · next hcode => rw [hcode]; rfl
  · nomatch h

theorem demandJob_of_release {d : List Byte} (h : handable .releaseCommand d = true) :
    demandJob d = if u8 d 0 = 0 then .prop else .steer := by
  obtain ⟨-, hcodes⟩ := Bool.and_eq_true_iff.mp h
  exact demandJob_of_listed hcodes

/-! ## The timers of a job (R42, R43) -/

section
variable {j : Job} {s : State}

theorem State.job_at (t : Nat) (j : Job) (s : State) : (s.at t).job j = s.job j := by
  cases j <;> rfl

theorem State.quiet_setJob_at (t : Nat) (j : Job) (r : JobRec) (s : State) :
    ((s.at t).setJob j r).quiet = (s.setJob j r).quiet := by
  cases j <;> rfl

/-- A hold time above 0 leaves a loss that begins in HOLDING. -/
theorem State.beginLoss_of_pos (h : 0 < s.intake.holdTime) (since : Nat) :
    s.beginLoss j since = s.putJob j { s.job j with loss := .holding since } := if_neg h.ne'

theorem State.timeoutExpires_of_due {heard : Nat} (hloss : (s.job j).loss = .attended)
    (hheard : (s.job j).lastHeard = some heard) (hdue : heard + s.intake.demandTimeout ≤ s.now) :
    s.timeoutExpires j = s.beginLoss j s.now :=
  if_pos (by simp [State.timedOut, isDue, hloss, hheard, hdue])

theorem State.timeoutExpires_of_early
    (h : (s.job j).loss = .attended → ∀ heard, (s.job j).lastHeard = some heard → s.now < heard + s.intake.demandTimeout) :
    s.timeoutExpires j = s := by
  refine if_neg ?_
  rw [Bool.not_eq_true, State.timedOut, Bool.and_eq_false_imp, decide_eq_true_eq]
  intro hloss
  cases hheard : (s.job j).lastHeard with
  | none => rfl
  | some heard => exact decide_eq_false (Nat.not_le.mpr (h hloss heard hheard))

theorem State.holdExpires_of_due {since : Nat} (hloss : (s.job j).loss = .holding since)
    (hdue : since + s.intake.holdTime ≤ s.now) : s.holdExpires j = s.degrade j :=
  if_pos (by simp [State.holdOut, hloss, hdue])

theorem State.holdExpires_of_early
    (h : ∀ since, (s.job j).loss = .holding since → s.now < since + s.intake.holdTime) : s.holdExpires j = s := by
  refine if_neg ?_
  rw [Bool.not_eq_true]
  cases hloss : (s.job j).loss with
  | attended => simp only [State.holdOut, hloss]
  | lost => simp only [State.holdOut, hloss]
  | holding since => simp only [State.holdOut, hloss, decide_eq_false (Nat.not_le.mpr (h since hloss))]
end

/-! ## The loss of PROP: COMMAND_LOSS posted (R43) -/

theorem Event.commandLoss_ne_portCongested : Event.commandLoss ≠ .portCongested := nofun

/-- The entries of a lane with COMMAND_LOSS at a row's idle speed. -/
def Ceilings.unattended (row : LaneRow) (c : Ceilings) : Ceilings := { c with commandLoss := some row.idle }

theorem Posts.postLoss (s : State) : Posts 20 s s.postLoss ∧ ∀ l row, s.lanes.rows.get l = some row →
    s.postLoss.lanes.ceils.get l = (s.lanes.ceils.get l).unattended row :=
  Posts.postOnEvery (fun row c => c.unattended row) s

theorem State.degrade_prop (s : State) : s.degrade .prop =
    (s.putJob .prop { s.intake.prop with loss := .lost }).postLoss.raise .commandLoss (some 0) := rfl

/-! ## The loss of STEER: the helm centred (R43, R100) -/

theorem State.degrade_steer (s : State) : s.degrade .steer =
    ((s.putJob .steer { s.intake.steer with loss := .lost }).setHelm 0).raise .commandLoss (some 1) := rfl

/-- The helm target replaced, and nothing else. -/
def State.withHelm (v : Int) (s : State) : State := { s with steering := { s.steering with helm := v } }

theorem State.setHelm_of_ne {v : Int} {s : State} (h : s.steering.helm ≠ v) :
    s.setHelm v = (s.withHelm v).evaluateAll.dueHelm := if_neg h.symm

theorem State.aim_quiet (a : Fin 8) (s : State) : s.quiet.aim a = s.aim a := by
  have hcolumn : ∀ l, s.quiet.columnOf l = s.columnOf l := fun l => by
    have hrows : s.quiet.lanes.rows = s.lanes.rows := rfl
    have hrec : s.quiet.lanes.recs.get l = (s.lanes.recs.get l).core := Tab.get_map _ _ l
    have hstate : (s.quiet.lanes.recs.get l).state = (s.lanes.recs.get l).state := by rw [hrec]; rfl
    simp only [State.columnOf, hrows, hstate]
  simp only [State.aim, hcolumn]
  rfl

theorem State.lane_core_of_quiet {s t : State} (h : t.quiet = s.quiet) (l : Fin 4) : (t.lane l).core = (s.lane l).core := by
  have hrecs : t.lanes.recs.map LaneRec.core = s.lanes.recs.map LaneRec.core := congrArg (fun u => u.lanes.recs) h
  have hl := congrArg (fun recs => recs.get l) hrecs
  rwa [Tab.get_map, Tab.get_map] at hl

theorem TargetsKept.of_quiet {s t : State} (h : t.quiet = s.quiet) : TargetsKept s t := fun l =>
  have hcore := State.lane_core_of_quiet h l
  ⟨congrArg (fun r => r.targetDir) hcore, congrArg (fun r => r.targetSpeed) hcore⟩

/-- What evaluation leaves depends on the quiet part alone. -/
theorem State.quiet_evaluateAll_congr {s t : State} (h : t.quiet = s.quiet) : t.evaluateAll.quiet = s.evaluateAll.quiet := by
  have hundriven : t.undriven = s.undriven := congrArg (fun u : State => { u with
    lanes := { u.lanes with recs := State.reset.lanes.recs }
    steering := { u.steering with recs := State.reset.steering.recs } }) h
  have haim : ∀ a, t.aim a = s.aim a := fun a => by rw [← State.aim_quiet, h, State.aim_quiet]
  have hact : ∀ a, t.act a = s.act a := fun a => congrArg (fun u => u.steering.recs.get a) h
  refine State.quiet_eq_of_undriven ?undriven (fun l => ?lanes) (fun a => ?acts)
  case undriven => rw [(Swept.evaluateAll t).undriven, (Swept.evaluateAll s).undriven, hundriven]
  case lanes =>
    rw [State.lane, State.lane, State.lanes_evaluateAll, State.lanes_evaluateAll]
    exact State.lane_core_of_quiet h l
  case acts => rw [State.act_evaluateAll, State.act_evaluateAll, haim, hact]

theorem Silent.setHelm (v : Int) (s : State) : Silent s (s.setHelm v) := by
  have hhelm : Silent s (s.withHelm v) := .of_eq rfl rfl rfl rfl
  have hdue : ∀ u : State, Silent u u.dueHelm := fun _ => .of_eq rfl rfl rfl rfl
  unfold State.setHelm
  exact relation_cond (.refl s) ((hhelm.trans (Swept.evaluateAll _).silent).trans (hdue _))

/-! ## A job released (R41) -/

section
variable {s : State} {q : Received}

theorem State.releaseCommand_of_unknown (h : s.stationOf q.frame.id.source.toNat = none) : s.releaseCommand q = s := by
  simp only [State.releaseCommand, h]

variable {i : Fin 4} (hi : s.stationOf q.frame.id.source.toNat = some i)
include hi

theorem State.releaseCommand_of_other (h : (s.job (demandJob q.frame.data)).station ≠ some i) :
    s.releaseCommand q = s.countRefusal i := by
  simp only [State.releaseCommand, hi, if_neg h]

theorem State.releaseCommand_of_own {j : Job} (hj : demandJob q.frame.data = j) (h : (s.job j).station = some i) :
    s.releaseCommand q =
      if (s.job j).loss = .attended then (s.putJob j { s.job j with station := none }).dueCommand.beginLoss j q.arrival
      else (s.putJob j { s.job j with station := none }).dueCommand := by
  subst hj
  simp only [State.releaseCommand, hi, if_pos h]
end

theorem State.job_putJob_dueCommand (j : Job) (r : JobRec) (s : State) : (s.putJob j r).dueCommand.job j = r := by
  have hdue : ∀ u : State, u.dueCommand.job j = u.job j := fun u => by cases j <;> rfl
  rw [hdue, State.job_putJob]

theorem State.holdTime_putJob (j : Job) (r : JobRec) (s : State) : (s.putJob j r).intake.holdTime = s.intake.holdTime := by
  rw [State.intake_putJob]
  cases j <;> rfl

end Sys2Proof.Machine

open Sys2Proof Sys2Proof.Machine

/-- Settles O29: an expiry or a release writes the job's record; the loss of PROP posts COMMAND_LOSS, and that of STEER centres
the helm. -/
theorem aJobIsHeldThenLost : Obligations.AJobIsHeldThenLost := by
  unfold Obligations.AJobIsHeldThenLost
  refine ⟨fun t j s hheld => ⟨fun h hloss hheard hdue hhold => ?timeout, fun h hheard hearly => ?early,
    fun since hloss hdue hhelm => ?steer, fun since hloss hdue => ?prop⟩, fun t p s s1 q h => ?release⟩
  case timeout =>
    have hexec : exec (.demandTimeoutExpiry t j) s = .next ((s.at t).timeoutExpires j).flush := event_of_awake hheld
    rw [State.timeoutExpires_of_due (by rwa [State.job_at]) (by rwa [State.job_at]) hdue,
      State.beginLoss_of_pos (s := s.at t) hhold, State.job_at] at hexec
    exact becomes_of_silent_effect hexec (.putJob j _ _) (by rw [State.quiet_putJob, State.quiet_setJob_at])
  case early =>
    have hexec : exec (.demandTimeoutExpiry t j) s = .next ((s.at t).timeoutExpires j).flush := event_of_awake hheld
    rw [State.timeoutExpires_of_early fun _ heard hh => ?_] at hexec
    · exact becomes_of_silent_effect hexec (.refl _) (State.quiet_at t s)
    · rw [State.job_at, hheard] at hh
      cases hh
      exact hearly
  case steer =>
    have hexec : exec (.commandHoldExpiry t .steer) s = .next ((s.at t).holdExpires .steer).flush := event_of_awake hheld
    rw [State.holdExpires_of_due (s := s.at t) (j := .steer) hloss hdue, State.degrade_steer] at hexec
    refine becomes_of_raised_effect Event.commandLoss_ne_portCongested hexec ((Silent.putJob .steer _ _).trans (.setHelm 0 _)) ?_
    rw [State.setHelm_of_ne (by rw [State.putJob_eq]; split <;> exact hhelm), State.quiet_dueHelm]
    refine State.quiet_evaluateAll_congr ?_
    rw [State.putJob_eq]
    split <;> rfl
  case prop =>
    have hexec : exec (.commandHoldExpiry t .prop) s = .next ((s.at t).holdExpires .prop).flush := event_of_awake hheld
    rw [State.holdExpires_of_due (s := s.at t) (j := .prop) hloss hdue, State.degrade_prop] at hexec
    have hput := Silent.putJob .prop { (s.at t).intake.prop with loss := .lost } (s.at t)
    have hlanes := State.lanes_putJob .prop { (s.at t).intake.prop with loss := .lost } (s.at t)
    have hquiet := State.quiet_putJob .prop { (s.at t).intake.prop with loss := .lost } (s.at t)
    generalize (s.at t).putJob .prop { (s.at t).intake.prop with loss := .lost } = w at hexec hput hlanes hquiet
    obtain ⟨hposts, hentries⟩ := Posts.postLoss w
    have htargets := TargetsKept.postCeilings (fun _ => true) (fun row c => { c with commandLoss := some row.idle }) w
    obtain ⟨⟨hnow, hq, hflags⟩, hraised⟩ := looksLike_raise_flush (w := w.postLoss) (d := some 0)
      Event.commandLoss_ne_portCongested (hposts.now.trans hput.now)
      (fun e he hmem => (hposts.flags e he hmem).trans (hput.flag e)) rfl
    generalize (w.postLoss.raise .commandLoss (some 0)).flush = u at hexec hnow hq hflags hraised
    have haims := ((TargetsKept.of_lanes (congrArg (fun lanes => lanes.recs) hlanes)).trans htargets).trans (.of_quiet hq)
    refine ⟨u, hexec, hnow, hflags, hraised, ?lessDrive, fun l row hrow => ⟨?entry, haims l⟩⟩
    case lessDrive =>
      rw [State.lessDrive_congr hq, hposts.lessDrive]
      exact State.lessDrive_congr (hquiet.trans (State.quiet_setJob_at t .prop _ s))
    case entry =>
      have hrow' : w.lanes.rows.get l = some row := by rwa [hlanes]
      have hentry := hentries l row hrow'
      rw [hlanes] at hentry
      exact (congrArg (fun x => x.lanes.ceils.get l) hq).trans hentry
  case release =>
    intro source j
    have hj : demandJob q.frame.data = j := demandJob_of_release (State.handable_of_delivery h)
    clear_value j
    have hexec : exec (.releaseCommand t p) s = .next (s1.releaseCommand q).flush := event_onDelivery_of_delivery h _
    refine ⟨fun hnone => ?unknown, fun i hi => ⟨fun hother => ?other, fun hown hloss hhold => ?attended,
      fun hown hloss => ?lost⟩⟩
    case unknown =>
      rw [State.releaseCommand_of_unknown hnone] at hexec
      exact becomes_of_silent_effect hexec (.refl s1) rfl
    case other =>
      rw [State.releaseCommand_of_other hi (by rwa [hj])] at hexec
      exact becomes_of_silent_effect hexec (.countRefusal i s1) rfl
    case attended =>
      have hhold' : 0 < (s1.putJob j { s1.job j with station := none }).dueCommand.intake.holdTime := by
        rwa [State.dueCommand_intake, State.holdTime_putJob]
      rw [State.releaseCommand_of_own hi hj hown, if_pos hloss, State.beginLoss_of_pos hhold',
        State.job_putJob_dueCommand] at hexec
      refine becomes_of_silent_effect hexec (((Silent.putJob j _ s1).trans (.dueCommand _)).trans (.putJob j _ _)) ?_
      rw [State.quiet_putJob, State.quiet_setJob, State.quiet_dueCommand, State.quiet_putJob, State.quiet_setJob,
        State.setJob_setJob, State.quiet_setJob]
    case lost =>
      rw [State.releaseCommand_of_own hi hj hown, if_neg hloss] at hexec
      refine becomes_of_silent_effect hexec ((Silent.putJob j _ s1).trans (.dueCommand _)) ?_
      rw [State.quiet_dueCommand, State.quiet_putJob]
end

section
/-!
PROOFS. Command taken (O30; R38 to R40, R45), and the levers that a take is compared with (R39).
-/

namespace Sys2Proof.Machine

/-! ## Levers (R39) -/

theorem dirOfCode_eq_some {n : Nat} {dir : Dir} : dirOfCode n = some dir ↔ n = dir.code := by
  constructor
  · intro h
    unfold dirOfCode at h
    split at h <;> cases h <;> rfl
  · rintro rfl
    cases dir <;> rfl

theorem gap_le_iff {a b tol : Nat} : gap a b ≤ tol ↔ a ≤ b + tol ∧ b ≤ a + tol := by
  unfold gap
  omega

/-- A lever at a target: in its direction, a target of speed 0 counting as NEUTRAL, and within the tolerance outside it. -/
theorem leverMatches_iff {tol speed : Nat} {d : List Byte} {l : Fin 4} {dir : Dir} :
    leverMatches tol d l (dir, speed) = true ↔
      if dir = .neutral ∨ speed = 0 then leverDir d l = 0
      else leverDir d l = (if dir = .ahead then 1 else 2)
        ∧ leverSpeed d l ≤ speed + tol ∧ speed ≤ leverSpeed d l + tol := by
  simp only [leverMatches, Bool.and_eq_true, Bool.or_eq_true, decide_eq_true_eq, dirOfCode_eq_some, gap_le_iff, beq_iff_eq]
  by_cases hspeed : speed = 0
  · simp [hspeed, Dir.code]
  · cases dir <;> simp [hspeed, Dir.code]

/-- The target of a lever: the group's while the lane is in step, its own otherwise. -/
theorem State.leverTarget_iff {s : State} {l : Fin 4} {lane : LaneRow} {dir : Dir} {speed : Nat} :
    s.leverTarget l lane = (dir, speed) ↔
      (∃ g, lane.home = some g ∧ (s.lane l).inStep = true ∧ dir = (s.groups.recs.get g).targetDir
        ∧ speed = (s.groups.recs.get g).targetSpeed)
      ∨ ((lane.home = none ∨ (s.lane l).inStep = false) ∧ dir = (s.lane l).targetDir ∧ speed = (s.lane l).targetSpeed) := by
  unfold State.leverTarget
  cases lane.home with
  | none => simp [eq_comm (b := dir), eq_comm (b := speed)]
  | some g => cases hstep : (s.lane l).inStep <;> simp [hstep, eq_comm (b := dir), eq_comm (b := speed)]

theorem State.leversMatch_prop_iff {s : State} {row : StationRow} {d : List Byte} : s.leversMatch row .prop d = true ↔
    ∀ l lane, s.lanes.rows.get l = some lane → (s.lane l).state.ordered = true →
      leverMatches row.speedTol d l (s.leverTarget l lane) = true := by
  unfold State.leversMatch
  rw [List.all_eq_true]
  refine ⟨fun h l lane hrow hordered => ?_, fun h l _ => ?_⟩
  · simpa [hrow, hordered] using h l (mem_indices l)
  · cases hrow : s.lanes.rows.get l with
    | none => rfl
    | some lane => cases hordered : (s.lane l).state.ordered <;> simp [hordered, h l lane hrow]

/-! ## The tests of a take (R38) -/

section
variable {s : State} {q : Received} {j : Job} (hj : demandJob q.frame.data = j)
include hj

theorem State.takeCommand_of_unknown (h : s.stationOf q.frame.id.source.toNat = none) : s.takeCommand q =
    (s.noteTake q.frame.id.source.toNat j .noRight).refuseDemand q.frame.id.source.toNat .takeCommand .noRight (.job j) := by
  subst hj
  simp only [State.takeCommand, h]

variable {i : Fin 4} {row : StationRow} (hi : s.stationOf q.frame.id.source.toNat = some i)
  (hrow : s.intake.stations.get i = some row)
include hi hrow

theorem State.takeCommand_of_rightless (h : row.holds j = false) : s.takeCommand q =
    ((s.countRefusal i).noteTake q.frame.id.source.toNat j .noRight).refuseDemand q.frame.id.source.toNat
      .takeCommand .noRight (.job j) := by
  subst hj
  simp only [State.takeCommand, hi, hrow, h, if_true]

variable (hright : row.holds j = true)
include hright

theorem State.takeCommand_of_own (h : (s.job j).station = some i) : s.takeCommand q =
    (s.noteTake q.frame.id.source.toNat j .renewal).acceptTake i j q.arrival := by
  subst hj
  simp only [State.takeCommand, hi, hrow, hright, h, Bool.true_eq_false, if_false, if_true]

variable (hother : (s.job j).station ≠ some i)
include hother

theorem State.takeCommand_of_won
    (h : (s.job j).station = none ∨ row.override = true ∨ s.leversMatch row j q.frame.data = true) : s.takeCommand q =
    ((s.noteTake q.frame.id.source.toNat j .accepted).acceptTake i j q.arrival).raise .commandHandover
      (some q.frame.id.source.toNat) := by
  subst hj
  simp only [State.takeCommand, hi, hrow, hright, if_neg hother, if_pos h, Bool.true_eq_false, if_false]

theorem State.takeCommand_of_lost
    (h : ¬ ((s.job j).station = none ∨ row.override = true ∨ s.leversMatch row j q.frame.data = true)) : s.takeCommand q =
    ((s.countRefusal i).noteTake q.frame.id.source.toNat j .mismatch).refuseDemand q.frame.id.source.toNat
      .takeCommand .mismatch (.job j) := by
  subst hj
  simp only [State.takeCommand, hi, hrow, hright, if_neg hother, if_neg h, Bool.true_eq_false, if_false]
end

theorem demandJob_of_take {d : List Byte} (h : handable .takeCommand d = true) :
    demandJob d = if u8 d 0 = 0 then .prop else .steer := by
  obtain ⟨-, hcodes⟩ := Bool.and_eq_true_iff.mp h
  refine demandJob_of_listed ?_
  unfold codesListed at hcodes
  cases hjob : jobOfCode (u8 d 0) with
  | none => simp [hjob] at hcodes
  | some j => rfl

/-! ## A take recorded and accepted (R40, R45) -/

theorem Silent.noteTake (source : Nat) (j : Job) (res : TakeResult) (s : State) : Silent s (s.noteTake source j res) :=
  .of_eq rfl rfl rfl rfl

theorem Event.commandHandover_ne_portCongested : Event.commandHandover ≠ .portCongested := nofun

/-- The in-command record after an accepted take. -/
def JobRec.taken (i : Fin 4) (arrival : Nat) : JobRec where
  station := some i
  lastHeard := some arrival
  loss := .attended

section
variable (source : Nat) (i : Fin 4) (j : Job) (res : TakeResult) (arrival : Nat) (s : State)

/-- The state with a take recorded and accepted, COMMAND_LOSS still posted. -/
def State.takenOver : State := (s.noteTake source j res).attend j
  { (s.noteTake source j res).job j with station := some i, lastHeard := some arrival }

theorem Silent.takenOver : Silent s (s.takenOver source i j res arrival) :=
  (Silent.noteTake source j res s).trans (.attend j _ _)

theorem State.quiet_takenOver : (s.takenOver source i j res arrival).quiet =
    (({ s with intake := { s.intake with lastTake := some { source := source, job := j, result := res } } } : State).setJob j
      (JobRec.taken i arrival)).quiet := by
  rw [State.takenOver, State.quiet_attend]
  cases j <;> rfl

theorem State.lanes_takenOver : (s.takenOver source i j res arrival).lanes = s.lanes := State.lanes_attend _ _ _

theorem State.acceptTake_of_kept (h : ¬ (j = .prop ∧ s.intake.prop.loss = .lost)) :
    (s.noteTake source j res).acceptTake i j arrival = s.takenOver source i j res arrival := by
  refine State.lift_putJob_of_kept j _ _ fun ⟨hj, hlost⟩ => h ⟨hj, ?_⟩
  subst hj
  exact hlost

theorem State.acceptTake_of_lost (h : s.intake.prop.loss = .lost) :
    (s.noteTake source .prop res).acceptTake i .prop arrival = (s.takenOver source i .prop res arrival).removeLoss :=
  (State.lift_putJob .prop _ _).trans (if_pos ⟨rfl, h⟩)
end

/-- An event that ends after postings looks like what it posted on, the drives and the ceilings aside. -/
theorem Silent.lessDrive_posts {n : Nat} {s w v u : State} {es : List Event} {c : Nat} (h : Silent s w) (hv : Posts n w v)
    (hu : Notified es c v u) (hquiet : u.quiet = v.quiet) :
    u.lessDrive = w.lessDrive ∧ FlagsKept s u es ∧ u.lanes.ceils = v.lanes.ceils :=
  ⟨(State.lessDrive_congr hquiet).trans hv.lessDrive,
    fun e he hmem => ((hu.flags e he hmem).trans (hv.flags e he List.not_mem_nil)).trans (h.flag e),
    congrArg (fun x => x.lanes.ceils) hquiet⟩

end Sys2Proof.Machine

open Sys2Proof Sys2Proof.Machine

/-- Settles O30: each test of R38 is a branch of `State.takeCommand`, and an accepted take is `State.takenOver`, from which
COMMAND_LOSS is lifted where PROP was LOST. -/
theorem takesHandOverCommand : Obligations.TakesHandOverCommand := by
  unfold Obligations.TakesHandOverCommand
  refine ⟨fun t p s s1 q h => ?takes, fun s row d => ⟨?prop, decide_eq_true_iff⟩⟩
  case takes =>
    intro source j noted refused taken
    have hj : demandJob q.frame.data = j := demandJob_of_take (State.handable_of_delivery h)
    clear_value j
    have hexec : exec (.takeCommand t p) s = .next (s1.takeCommand q).flush := event_onDelivery_of_delivery h _
    refine ⟨fun hnone => ?unknown, fun i row hi hrow => ⟨fun hright => ?rightless, fun hright hown hkept => ?renewal,
      fun hright hother hwon hkept => ?accepted, fun hright hprop hlost hwon => ?lifted,
      fun hright hother hsome hoverride hlevers => ?mismatch⟩⟩
    case unknown =>
      rw [State.takeCommand_of_unknown hj hnone] at hexec
      exact (becomes_of_refused_demand (w := noted .noRight s1) hexec (.noteTake _ _ _ s1) rfl).imp fun _ hu => hu.2
    case rightless =>
      rw [State.takeCommand_of_rightless hj hi hrow hright] at hexec
      exact (becomes_of_refused_demand (w := noted .noRight (s1.countRefusal i)) hexec
        ((Silent.countRefusal i s1).trans (.noteTake _ _ _ _)) rfl).imp fun _ hu => hu.2
    case renewal =>
      rw [State.takeCommand_of_own hj hi hrow hright hown, State.acceptTake_of_kept _ _ _ _ _ _ hkept] at hexec
      exact becomes_of_silent_effect hexec (.takenOver _ _ _ _ _ s1) (State.quiet_takenOver _ _ _ _ _ s1)
    case accepted =>
      rw [State.takeCommand_of_won hj hi hrow hright hother hwon, State.acceptTake_of_kept _ _ _ _ _ _ hkept] at hexec
      exact (becomes_of_raised_effect Event.commandHandover_ne_portCongested hexec (.takenOver _ _ _ _ _ s1)
        (State.quiet_takenOver _ _ _ _ _ s1)).imp fun _ hu => hu.2
    case lifted =>
      subst hprop
      have hentry : ∀ res l lane, s1.lanes.rows.get l = some lane →
          ((s1.takenOver source i .prop res q.arrival).removeLoss).lanes.ceils.get l = (s1.lanes.ceils.get l).attended :=
        fun res l lane hlane => by
          rw [(Posts.removeLoss _).2 l lane (by rwa [State.lanes_takenOver]), State.lanes_takenOver]
      by_cases hown : (s1.job .prop).station = some i
      · rw [State.takeCommand_of_own hj hi hrow hright hown, State.acceptTake_of_lost _ _ _ _ _ hlost] at hexec
        obtain ⟨hless, hflags, hceils⟩ := (Silent.takenOver source i .prop .renewal q.arrival s1).lessDrive_posts
          (Posts.removeLoss _).1 (.flush _) (State.quiet_flush _)
        refine ⟨_, hexec, ?_, fun e he _ => hflags e he List.not_mem_nil, fun hother => absurd hown hother,
          fun l lane hlane => ?_⟩
        · rw [hless, if_pos hown]
          exact State.lessDrive_congr (State.quiet_takenOver _ _ _ _ _ s1)
        · rw [hceils]
          exact hentry _ l lane hlane
      · rw [State.takeCommand_of_won hj hi hrow hright hown (hwon.resolve_left hown),
          State.acceptTake_of_lost _ _ _ _ _ hlost] at hexec
        have hlift := (Posts.removeLoss (s1.takenOver source i .prop .accepted q.arrival)).1
        obtain ⟨hless, hflags, hceils⟩ := (Silent.takenOver source i .prop .accepted q.arrival s1).lessDrive_posts
          hlift (.raise_flush Event.commandHandover_ne_portCongested (some source) _)
          ((State.quiet_flush _).trans (State.quiet_raise _ _ _))
        refine ⟨_, hexec, ?_, hflags, fun _ => ?_, fun l lane hlane => ?_⟩
        · rw [hless, if_neg hown]
          exact State.lessDrive_congr (State.quiet_takenOver _ _ _ _ _ s1)
        · rw [Raised, State.raise_flush_flag Event.commandHandover_ne_portCongested,
            hlift.flags _ Event.commandHandover_ne_portCongested List.not_mem_nil, (Silent.takenOver _ _ _ _ _ s1).flag]
        · rw [hceils]
          exact hentry _ l lane hlane
    case mismatch =>
      rw [State.takeCommand_of_lost hj hi hrow hright hother (by simp [hsome, hoverride, hlevers])] at hexec
      exact (becomes_of_refused_demand (w := noted .mismatch (s1.countRefusal i)) hexec
        ((Silent.countRefusal i s1).trans (.noteTake _ _ _ _)) rfl).imp fun _ hu => hu.2
  case prop =>
    simp only [State.leversMatch_prop_iff, ← State.leverTarget_iff, ← leverMatches_iff]
    refine ⟨fun hlevers l lane hrow hordered => ⟨_, _, rfl, hlevers l lane hrow hordered⟩,
      fun hlevers l lane hrow hordered => ?_⟩
    obtain ⟨dir, speed, htarget, hlever⟩ := hlevers l lane hrow hordered
    rwa [htarget]
end

section
/-!
PROOFS. Coupling orders refused, by demand intake and by the coupling supervisor (O46; R46, R117 to R122).
-/

namespace Sys2Proof.Machine

/-! ## Indices in a message -/

theorem idx_eq_some_iff {n v : Nat} {i : Fin n} : idx n v = some i ↔ v = i.val := by
  unfold idx
  split
  · rw [Option.some.injEq, Fin.ext_iff]
  · next h => exact ⟨nofun, fun hv => absurd (hv ▸ i.isLt) h⟩

theorem idx_eq_none_iff {n v : Nat} : idx n v = none ↔ n ≤ v := by
  unfold idx
  split
  · next h => exact ⟨nofun, fun hv => absurd h (Nat.not_lt.mpr hv)⟩
  · next h => exact ⟨fun _ => Nat.not_lt.mp h, fun _ => rfl⟩

/-! ## The coupling that an order names (section 7.5) -/

/-- The orders of the codes 0 to 4 name a coupling. -/
theorem demandOrder_namesCoupling_iff {d : List Byte} : (demandOrder d).namesCoupling = true ↔ u8 d 0 ≤ 4 := by
  unfold demandOrder
  generalize u8 d 0 = code
  by_cases hcode : code ≤ 7
  · interval_cases code <;> decide
  · obtain ⟨n, rfl⟩ : ∃ n, code = n + 8 := Nat.exists_eq_add_of_le' (by omega)
    exact ⟨nofun, fun h => absurd h (by omega)⟩

/-- Assumption log 18: the object of a refused order is the coupling it names, if it names one of 0 to 31. -/
theorem orderObject_eq {d : List Byte} {o : Object}
    (h : (∃ c : Fin 32, c.val = u8 d 1 ∧ (u8 d 0 ≤ 4 ∧ u8 d 1 ≤ 31) ∧ o = .coupling c)
      ∨ ¬ (u8 d 0 ≤ 4 ∧ u8 d 1 ≤ 31) ∧ o = .none) : orderObject d = o := by
  unfold orderObject demandCoupling
  rcases h with ⟨c, hc, ⟨hcode, -⟩, rfl⟩ | ⟨hnamed, rfl⟩
  · rw [if_pos (demandOrder_namesCoupling_iff.mpr hcode), idx_eq_some_iff.mpr hc.symm]
  · by_cases hcode : u8 d 0 ≤ 4
    · rw [if_pos (demandOrder_namesCoupling_iff.mpr hcode), idx_eq_none_iff.mpr (by omega)]
    · rw [if_neg (fun h => hcode (demandOrder_namesCoupling_iff.mp h))]

/-! ## The right COUPLE (R46) -/

section
variable {s : State} {q : Received} {pass : OrderOf → State → State}

theorem State.takeOrder_of_unknown (h : s.stationOf q.frame.id.source.toNat = none) : s.takeOrder pass q =
    s.refuseDemand q.frame.id.source.toNat .couplingOrder .noRight (orderObject q.frame.data) := by
  simp only [State.takeOrder, h]

variable {i : Fin 4} {row : StationRow} (hi : s.stationOf q.frame.id.source.toNat = some i)
  (hrow : s.intake.stations.get i = some row)
include hi hrow

theorem State.takeOrder_of_rightless (h : row.couple = false) : s.takeOrder pass q =
    (s.countRefusal i).refuseDemand q.frame.id.source.toNat .couplingOrder .noRight (orderObject q.frame.data) := by
  simp only [State.takeOrder, hi, hrow, h, Bool.false_eq_true, if_false]

theorem State.takeOrder_of_right (h : row.couple = true) : s.takeOrder pass q = pass (orderOf q) s := by
  simp only [State.takeOrder, hi, hrow, h, if_true]
end

/-- An order passed on is the coupling supervisor's. -/
theorem exec_classifyFrame_of_passed {t : Nat} {p : Port} {s s1 : State} {o : CoupOrder} {q : Received}
    (h : s.passed t p o = some (q, s1)) :
    exec (.classifyFrame t p) s = .next (s1.couplingOrder o (orderOf q)).flush := by
  unfold State.passed at h
  split at h
  · next q' s1' hdelivery =>
    split at h
    · next i hi =>
      split at h
      · next hpass =>
        cases h
        obtain ⟨rfl, hcouple⟩ := hpass
        obtain ⟨row, hrow, hright⟩ := Option.any_eq_true _ _ |>.mp hcouple
        rw [exec_classifyFrame_of_delivery hdelivery, State.owned, State.takeOrder_of_right hi hrow hright]
      · nomatch h
    · nomatch h
  · nomatch h

/-! ## A refused order recorded (R117) -/

theorem Silent.putCoup (c : Fin 32) (r : CoupRec) (s : State) : Silent s (s.putCoup c r) := by
  unfold State.putCoup
  exact relation_cond (.of_eq rfl rfl rfl rfl) (.of_eq rfl rfl rfl rfl)

theorem State.quiet_putCoup (c : Fin 32) (r : CoupRec) (s : State) : (s.putCoup c r).quiet = (s.setCoup c r).quiet := by
  unfold State.putCoup
  dsimp only
  split <;> rfl

theorem State.refuseOrder_eq (source : Nat) (o : CoupOrder) (c : Option (Fin 32)) (why : CoupReason) (s : State) :
    ∃ w, s.refuseOrder source o c why = w.raise .couplingRefused (c.map (·.val)) ∧ Silent s w
      ∧ w.quiet = (s.orderRefused source o c why).quiet := by
  have hnoted : Silent s { s with couplings := { s.couplings with
      lastRefusal := some { source := source, order := o, index := c, reason := why } } } := .of_eq rfl rfl rfl rfl
  have hdue : ∀ (c : Fin 32) (u : State), Silent u (u.dueCoupling c) := fun _ _ => .of_eq rfl rfl rfl rfl
  cases c with
  | none => exact ⟨_, rfl, hnoted, rfl⟩
  | some c =>
    refine ⟨_, rfl, (hnoted.trans (.putCoup c _ _)).trans (hdue c _), ?_⟩
    rw [State.quiet_dueCoupling, State.quiet_putCoup]
    rfl

theorem Event.couplingRefused_ne_portCongested : Event.couplingRefused ≠ .portCongested := nofun

/-- An order refused after an effect that queues nothing and raises nothing. -/
theorem becomes_of_refused_order {e : Instr} {s s1 w w' : State} {source : Nat} {o : CoupOrder} {c : Option (Fin 32)}
    {why : CoupReason} (hexec : exec e s = .next (w'.refuseOrder source o c why).flush) (h : Silent s1 w')
    (hquiet : (w'.orderRefused source o c why).quiet = w.quiet) :
    Becomes e s s1 w [.couplingRefused]
      fun u => QueuesNothing s1 u ∧ Raised s1 u .couplingRefused (c.map (·.val)) := by
  obtain ⟨x, hx, hsilent, hxquiet⟩ := State.refuseOrder_eq source o c why w'
  rw [hx] at hexec
  exact becomes_of_raised_effect Event.couplingRefused_ne_portCongested hexec (h.trans hsilent) (hxquiet.trans hquiet)

/-! ## The release permit (R122) -/

theorem State.holdsPermit_iff {s : State} {source : Nat} :
    s.holdsPermit source = true ↔ ∃ x, s.couplings.permit = some x ∧ x.holder = source := by
  unfold State.holdsPermit
  cases s.couplings.permit <;> simp

/-- The permit record once an order of the source that needs the permit is taken. -/
def State.permitAfter (source : Nat) (s : State) : Option Permit :=
  match s.couplings.permit with
  | some x => if x.holder = source then none else some x
  | none => none

theorem State.usePermit_eq (source : Nat) (s : State) : s.usePermit source = s.setPermit (s.permitAfter source) := by
  unfold State.usePermit State.holdsPermit State.permitAfter
  cases hpermit : s.couplings.permit with
  | none => simp [State.setPermit, ← hpermit]
  | some x => by_cases hholder : x.holder = source <;> simp [State.setPermit, hholder, ← hpermit]

/-- R122: the permit as an order finds it: UNLOCK and RELEASE use it as they are taken. -/
def State.spend (o : CoupOrder) (source : Nat) (s : State) : State :=
  if o = .unlock ∨ o = .release then s.usePermit source else s

section
variable (o : CoupOrder) (source : Nat) (s : State)

theorem Silent.spend : Silent s (s.spend o source) := by
  unfold State.spend
  rw [State.usePermit_eq]
  exact relation_cond (.of_eq rfl rfl rfl rfl) (.refl s)

theorem State.rows_spend : (s.spend o source).couplings.rows = s.couplings.rows := by
  unfold State.spend
  rw [State.usePermit_eq]
  split <;> rfl

theorem State.orderRefused_spend (c : Option (Fin 32)) (why : CoupReason) :
    (s.spend o source).orderRefused source o c why = if o = .unlock ∨ o = .release
      then (s.orderRefused source o c why).setPermit ((s.orderRefused source o c why).permitAfter source)
      else s.orderRefused source o c why := by
  have hpermit : (s.orderRefused source o c why).permitAfter source = s.permitAfter source := by cases c <;> rfl
  unfold State.spend
  rw [State.usePermit_eq, hpermit]
  split
  · cases c <;> rfl
  · rfl
end

/-! ## The tests of an order (R117 to R121) -/

section
variable {s : State} {q : OrderOf}

/-- The orders that name a coupling are tested for RANGE. -/
theorem State.couplingOrder_of_range {o : CoupOrder} (ho : o ∈ [CoupOrder.makeUp, .ease, .lock, .unlock, .release])
    (h : 32 ≤ q.index) : s.couplingOrder o q = (s.spend o q.source).refuseOrder q.source o none .range := by
  have hidx := idx_eq_none_iff.mpr h
  simp only [List.mem_cons, List.not_mem_nil, or_false] at ho
  rcases ho with rfl | rfl | rfl | rfl | rfl <;>
    simp [State.couplingOrder, State.makeUpOrder, State.easeOrder, State.lockOrder, State.unlockOrder,
      State.releaseOrder, State.ranged, hidx, State.spend]

variable {c : Fin 32} (hc : q.index = c.val)
include hc

theorem State.couplingOrder_of_empty {o : CoupOrder} (ho : o ∈ [CoupOrder.makeUp, .ease, .lock, .unlock, .release])
    (h : s.couplings.rows.get c = none) :
    s.couplingOrder o q = (s.spend o q.source).refuseOrder q.source o (some c) .range := by
  have hidx := idx_eq_some_iff.mpr hc
  have hrow : (s.spend o q.source).couplings.rows.get c = none := by rwa [State.rows_spend]
  simp only [List.mem_cons, List.not_mem_nil, or_false] at ho
  rcases ho with rfl | rfl | rfl | rfl | rfl <;>
    simp_all [State.couplingOrder, State.makeUpOrder, State.easeOrder, State.lockOrder, State.unlockOrder,
      State.releaseOrder, State.ranged, State.spend]

theorem State.ranged_of_row {o : CoupOrder} {f : Fin 32 → CoupRow → State} {row : CoupRow}
    (h : s.couplings.rows.get c = some row) : s.ranged o q f = f c row := by
  simp only [State.ranged, idx_eq_some_iff.mpr hc, h]

variable {row : CoupRow} (hrow : s.couplings.rows.get c = some row)
include hrow

theorem State.makeUpOrder_of_badState (h : (s.coup c).state ∈ [CoupState.unsynced, .easing, .releasing, .fault]) :
    s.makeUpOrder q = s.refuseOrder q.source .makeUp (some c) .badState := by
  have hcoup : s.couplings.recs.get c = s.coup c := rfl
  simp only [List.mem_cons, List.not_mem_nil, or_false] at h
  rw [State.makeUpOrder, State.ranged_of_row hc hrow, hcoup]
  rcases h with h | h | h | h <;> simp only [h]

theorem State.easeOrder_of_badState
    (h : (s.coup c).state ∈ [CoupState.unsynced, .released, .makingUp, .releasing, .lost, .fault]) :
    s.easeOrder q = s.refuseOrder q.source .ease (some c) .badState := by
  have hcoup : s.couplings.recs.get c = s.coup c := rfl
  simp only [List.mem_cons, List.not_mem_nil, or_false] at h
  rw [State.easeOrder, State.ranged_of_row hc hrow, hcoup]
  rcases h with h | h | h | h | h | h <;> simp only [h]

theorem State.unlockOrder_of_noPermit (h : s.holdsPermit q.source = false) :
    s.unlockOrder q = (s.spend .unlock q.source).refuseOrder q.source .unlock (some c) .noPermit := by
  have hrow' : (s.spend .unlock q.source).couplings.rows.get c = some row := by rwa [State.rows_spend]
  exact (State.ranged_of_row (s := s.spend .unlock q.source) hc hrow').trans (if_pos h)

theorem State.unlockOrder_of_released (h : s.holdsPermit q.source = true) (hstate : (s.coup c).state = .released) :
    s.unlockOrder q = (s.spend .unlock q.source).refuseOrder q.source .unlock (some c) .badState := by
  have hrow' : (s.spend .unlock q.source).couplings.rows.get c = some row := by rwa [State.rows_spend]
  have hreleased : ((s.usePermit q.source).couplings.recs.get c).state = .released := by
    rwa [State.usePermit_eq]
  exact (State.ranged_of_row (s := s.spend .unlock q.source) hc hrow').trans
    ((if_neg (by rw [h]; exact Bool.true_eq_false_eq_False)).trans (if_pos hreleased))
end

theorem State.unlockAllOrder_of_noPermit {s : State} {q : OrderOf} (h : s.holdsPermit q.source = false) :
    s.unlockAllOrder q = s.refuseOrder q.source .unlockAll none .noPermit := if_neg (ne_true_of_eq_false h)

end Sys2Proof.Machine

open Sys2Proof Sys2Proof.Machine

/-- Settles O46: each refusal is a branch of `State.takeOrder` or of the order's own function, and `State.refuseOrder` records
it once UNLOCK and RELEASE have used the permit. -/
theorem couplingOrdersAreRefusedByReason : Obligations.CouplingOrdersAreRefusedByReason := by
  unfold Obligations.CouplingOrdersAreRefusedByReason
  refine ⟨fun t p s s1 q h => ?intake, fun t p s s1 q o h => ?supervisor⟩
  case intake =>
    intro source named refused object hobject
    have hexec := exec_classifyFrame_of_delivery h
    obtain rfl := orderObject_eq hobject
    refine ⟨fun hnone => ?unknown, fun i row hi hrow hright => ?rightless⟩
    case unknown =>
      rw [State.owned, State.takeOrder_of_unknown hnone] at hexec
      exact becomes_of_refused_demand hexec (.refl s1) rfl
    case rightless =>
      rw [State.owned, State.takeOrder_of_rightless hi hrow hright] at hexec
      exact becomes_of_refused_demand hexec (.countRefusal i s1) rfl
  case supervisor =>
    intro source index holder used refused
    have hexec := exec_classifyFrame_of_passed h
    have hused : ∀ c why, ((s1.spend o source).orderRefused source o c why).quiet
        = (used (s1.orderRefused source o c why)).quiet := fun c why =>
      congrArg State.quiet (State.orderRefused_spend o source s1 c why)
    have refuses : ∀ c why, s1.couplingOrder o (orderOf q) = (s1.spend o source).refuseOrder source o c why →
        refused c why := fun c why heq => by
      rw [heq] at hexec
      exact becomes_of_refused_order hexec (.spend o source s1) (hused c why)
    have hholder : ¬ holder → s1.holdsPermit source = false := fun hno =>
      Bool.eq_false_iff.mpr fun hholds => hno (State.holdsPermit_iff.mp hholds)
    refine ⟨fun ho hindex => refuses _ _ (State.couplingOrder_of_range ho hindex),
      fun c hc hrow ho => refuses _ _ (State.couplingOrder_of_empty hc ho hrow),
      fun c row hc hrow => ⟨?makeUp, ?ease, ?noPermit, ?released⟩, ?unlockAll⟩
    case makeUp => rintro rfl hstate; exact refuses _ _ (State.makeUpOrder_of_badState hc hrow hstate)
    case ease => rintro rfl hstate; exact refuses _ _ (State.easeOrder_of_badState hc hrow hstate)
    case noPermit => rintro rfl hno; exact refuses _ _ (State.unlockOrder_of_noPermit hc hrow (hholder hno))
    case released =>
      rintro rfl hholds hstate
      exact refuses _ _ (State.unlockOrder_of_released hc hrow (State.holdsPermit_iff.mpr hholds) hstate)
    case unlockAll => rintro rfl hno; exact refuses _ _ (State.unlockAllOrder_of_noPermit (hholder hno))
end

section
/-!
PROOFS. The summaries that go out when their second has passed (O31; R45, R74, R107, R127).
-/

namespace Sys2Proof.Machine

/-! ## A walk that acts at one place -/

theorem indices_nodup : (n : Nat) → (indices n).Nodup
  | 0 => List.nodup_nil
  | n + 1 => List.nodup_cons.mpr
      ⟨fun h => by
        obtain ⟨i, -, hi⟩ := List.mem_map.mp h
        exact Fin.succ_ne_zero i hi,
      (indices_nodup n).map (Fin.succ_injective n)⟩

theorem forEach_of_notMem {ι : Type} {is : List ι} {f : ι → State → State} {i : ι} (hi : i ∉ is)
    (h : ∀ j, j ≠ i → ∀ s, f j s = s) (s : State) : forEach is f s = s := by
  induction is generalizing s with
  | nil => rfl
  | cons j is ih =>
    obtain ⟨hj, his⟩ := List.ne_and_not_mem_of_not_mem_cons hi
    calc forEach (j :: is) f s = forEach is f (f j s) := rfl
      _ = s := by rw [h j (Ne.symm hj), ih his]

theorem forEach_of_mem {ι : Type} {is : List ι} {f : ι → State → State} {i : ι} (hnodup : is.Nodup) (hi : i ∈ is)
    (h : ∀ j, j ≠ i → ∀ s, f j s = s) (s : State) : forEach is f s = f i s := by
  induction is generalizing s with
  | nil => nomatch hi
  | cons j is ih =>
    obtain ⟨hj, hrest⟩ := List.nodup_cons.mp hnodup
    have hcons : forEach (j :: is) f s = forEach is f (f j s) := rfl
    rw [hcons]
    rcases List.mem_cons.mp hi with rfl | hmem
    · exact forEach_of_notMem hj h _
    · have hne : j ≠ i := fun e => hj (e ▸ hmem)
      rw [h j hne, ih hrest hmem]

/-- A walk over the flags of a table that are set at one place alone. -/
theorem forAll_flagged {n : Nat} {flags : Tab n Bool} (hflags : flags = Tab.fill n false) (i : Fin n)
    (f : Fin n → State → State) (s : State) :
    forAll n (fun j s => if (flags.set i true).get j then f j s else s) s = f i s := by
  have hself : (flags.set i true).get i = true := Tab.get_set_self _ _ _
  have hwalk := forEach_of_mem (f := fun j s => if (flags.set i true).get j then f j s else s) (indices_nodup n)
    (mem_indices i) (fun j hj s => if_neg (by rw [Tab.get_set_ne _ _ hj, hflags, Tab.get_fill]; exact Bool.false_ne_true)) s
  exact hwalk.trans (if_pos hself)

/-- A walk over the flags of a table of which none is set. -/
theorem forAll_unflagged {n : Nat} {flags : Tab n Bool} (hflags : flags = Tab.fill n false)
    (f : Fin n → State → State) (s : State) : forAll n (fun j s => if flags.get j then f j s else s) s = s :=
  forEach_of_fixed fun j => if_neg (by rw [hflags, Tab.get_fill]; exact Bool.false_ne_true)

/-! ## The end of an event with one summary due -/

section
variable {s : State} (h : NothingDue s)
include h

theorem NothingDue.cleared : { s with due := Due.none } = s := by
  rw [← h]

theorem NothingDue.lanes : s.due.lanes = Tab.fill 4 false := congrArg Due.lanes h
theorem NothingDue.couplings : s.due.couplings = Tab.fill 32 false := congrArg Due.couplings h
theorem NothingDue.helm : s.due.helm = false := congrArg Due.helm h
theorem NothingDue.command : s.due.command = false := congrArg Due.command h

theorem State.flush_dueLane (l : Fin 4) : (s.dueLane l).flush = s.laneSummary l := by
  have hcleared : { s.dueLane l with due := Due.none } = s := h.cleared
  unfold State.flush
  rw [hcleared]
  simp only [State.dueLane, forAll_flagged h.lanes l State.laneSummary, forAll_unflagged h.couplings, h.helm, h.command,
    Bool.false_eq_true, if_false]

theorem State.flush_dueHelm : s.dueHelm.flush = s.helmSummary := by
  have hcleared : { s.dueHelm with due := Due.none } = s := h.cleared
  unfold State.flush
  rw [hcleared]
  simp only [State.dueHelm, forAll_unflagged h.lanes, forAll_unflagged h.couplings, h.command, Bool.false_eq_true,
    if_false, if_true]

theorem State.flush_dueCoupling (c : Fin 32) : (s.dueCoupling c).flush = s.coupSummary c := by
  have hcleared : { s.dueCoupling c with due := Due.none } = s := h.cleared
  unfold State.flush
  rw [hcleared]
  simp only [State.dueCoupling, forAll_flagged h.couplings c State.coupSummary, forAll_unflagged h.lanes, h.helm,
    h.command, Bool.false_eq_true, if_false]

theorem State.flush_dueCommand : s.dueCommand.flush = s.commandState := by
  have hcleared : { s.dueCommand with due := Due.none } = s := h.cleared
  unfold State.flush
  rw [hcleared]
  simp only [State.dueCommand, forAll_unflagged h.lanes, forAll_unflagged h.couplings, h.helm, Bool.false_eq_true,
    if_false, if_true]
end

/-! ## Summaries on a queue with room -/

/-- Summary frames queued on B once the period is counted afresh: they stand at its tail, and nothing else changes. -/
theorem answers_of_summary {t : Nat} {s w : State} {e : Instr} {fs : List CmsFrame}
    (hexec : exec e s = .next (w.originateAll .B fs)) (hw : Silent (s.at t) w) (hquiet : w.quiet = s.quiet)
    (hroom : (s.port .B).egress.length + fs.length ≤ 35) :
    Answers (exec e s) fun u => (LooksLike (s.at t) s u [] ∧ QueuesNothing (s.at t) u
      ∧ (u.port .B).egress = (s.port .B).egress ++ fs) ∧ u.blocks = w.blocks := by
  have hegress : (w.port .B).egress = (s.port .B).egress := by rw [hw.egress, State.port_at]
  have hcalm := Calm.originateAll .B fs w
  refine ⟨_, hexec, ⟨⟨hcalm.now.trans hw.now, hcalm.quiet.trans hquiet, fun e he _ => ?flag⟩, fun p hp => ?port, ?tail⟩,
    State.blocks_originateAll .B fs w⟩
  case flag => rw [State.originateAll_flag he, hw.flag]
  case port => rw [State.originateAll_port_ne hp, hw.out]
  case tail => rw [State.originateAll_egress (by rwa [hegress]), hegress]

/-- An answer with less said of it. -/
theorem Answers.imp {o : Host.Outcome State Fault Refusal} {P Q : State → Prop} (h : Answers o P) (himp : ∀ u, P u → Q u) :
    Answers o Q := by
  obtain ⟨u, ho, hu⟩ := h
  exact ⟨u, ho, himp u hu⟩

theorem State.quiet_summaryAt_lane (l : Fin 4) (v : Nat) (s : State) :
    State.quiet { s with lanes := { s.lanes with recs := s.lanes.recs.modify l fun r => { r with summaryAt := v } } }
      = s.quiet := by
  simp only [State.quiet]
  rw [map_modify (g := LaneRec.core) (h := by intro x; rfl)]

theorem State.quiet_summaryAt_coup (c : Fin 32) (v : Nat) (s : State) :
    State.quiet { s with couplings := { s.couplings with
      recs := s.couplings.recs.modify c fun r => { r with summaryAt := v } } } = s.quiet := by
  simp only [State.quiet]
  rw [map_modify (g := CoupRec.core) (h := by intro x; rfl)]

/-- The bytes of COMMAND_STATE (11.5). -/
theorem State.commandFrame_eq (s : State) : s.commandFrame =
    [byte (s.commandNode .prop), byte s.intake.prop.loss.code, byte (s.commandNode .steer), byte s.intake.steer.loss.code,
      byte ((s.intake.lastTake.map (·.source)).getD 0),
      (match s.intake.lastTake with | some x => byte (jobCode x.job) | none => Config.noTakeJobByte),
      byte ((s.intake.lastTake.map (fun x => x.result.code)).getD 0)] := by
  unfold State.commandFrame
  cases s.intake.lastTake <;> rfl

end Sys2Proof.Machine

open Sys2Proof Sys2Proof.Machine

/-- Settles O31: an expired period makes its own summary due and nothing else, and its frames go to the tail of B's queue. -/
theorem summariesGoOutEachSecond : Obligations.SummariesGoOutEachSecond := by
  unfold Obligations.SummariesGoOutEachSecond
  intro t s hheld hnothing hroom s1 queued broadcast
  have hdue : NothingDue (s.at t) := hnothing
  have hevent : ∀ k : State → State, event t k s = .next (k (s.at t)).flush := fun k => event_of_awake hheld
  refine ⟨fun hpassed => ?command, fun l row hrow hpassed => ?lane, fun hpassed => ?helm, fun c hrow hpassed => ?coupling,
    fun hearly => ?early⟩
  case command =>
    have hexec : exec (.commandStatePeriod t) s = .next ((s.at t).commandStateDue).flush := hevent _
    have hpassed' : (s.at t).intake.stateAt ≤ (s.at t).now := hpassed
    rw [State.commandStateDue, if_pos hpassed', State.flush_dueCommand hdue] at hexec
    refine (answers_of_summary (fs := [_]) hexec (.of_eq rfl rfl rfl rfl) rfl ?_).imp fun u ⟨hqueued, hblocks⟩ => ⟨?_, ?_⟩
    · rw [List.length_singleton]
      omega
    · rw [State.commandFrame_eq] at hqueued
      exact hqueued
    · exact congrArg (fun x => x.intake.stateAt) hblocks
  case lane =>
    have hexec : exec (.laneSummaryPeriod t l) s = .next ((s.at t).laneSummaryDue l).flush := hevent _
    have hrow' : (s.at t).lanes.rows.get l = some row := hrow
    have hpassed' : ((s.at t).lane l).summaryAt ≤ (s.at t).now := hpassed
    rw [State.laneSummaryDue, if_pos hpassed', State.flush_dueLane hdue, State.laneSummary, hrow'] at hexec
    refine (answers_of_summary hexec (.of_eq rfl rfl rfl rfl) (State.quiet_summaryAt_lane l _ _) ?_).imp
      fun u ⟨hqueued, hblocks⟩ => ⟨hqueued, ?_⟩
    · rw [List.length_cons, List.length_singleton]
      omega
    · rw [State.lane, State.lanes_of_blocks hblocks]
      exact congrArg LaneRec.summaryAt (Tab.get_set_self _ _ _)
  case helm =>
    have hexec : exec (.helmSummaryPeriod t) s = .next ((s.at t).helmSummaryDue).flush := hevent _
    have hpassed' : (s.at t).steering.summaryAt ≤ (s.at t).now := hpassed
    rw [State.helmSummaryDue, if_pos hpassed', State.flush_dueHelm hdue, State.helmSummary] at hexec
    refine (answers_of_summary hexec (.of_eq rfl rfl rfl rfl) rfl ?_).imp fun u ⟨hqueued, hblocks⟩ =>
      ⟨hqueued, congrArg (fun x => x.steering.summaryAt) hblocks⟩
    have hcount := List.length_filter_le (fun a => ((s.at t).steering.rows.get a).isSome) (indices 8)
    have height : (indices 8).length = 8 := rfl
    rw [List.length_cons, List.length_map]
    omega
  case coupling =>
    have hexec : exec (.couplingSummaryPeriod t c) s = .next ((s.at t).coupSummaryDue c).flush := hevent _
    obtain ⟨row, hrow⟩ := Option.ne_none_iff_exists'.mp hrow
    have hrow' : (s.at t).couplings.rows.get c = some row := hrow
    have hpassed' : ((s.at t).couplings.recs.get c).summaryAt ≤ (s.at t).now := hpassed
    rw [State.coupSummaryDue, if_pos hpassed', State.flush_dueCoupling hdue, State.coupSummary, hrow'] at hexec
    refine (answers_of_summary (fs := [_]) hexec (.of_eq rfl rfl rfl rfl) (State.quiet_summaryAt_coup c _ _) ?_).imp
      fun u ⟨hqueued, hblocks⟩ => ⟨hqueued, ?_⟩
    · rw [List.length_singleton]
      omega
    · have hcouplings : u.couplings = _ := congrArg (fun x => x.couplings) hblocks
      rw [State.coup, hcouplings]
      exact congrArg CoupRec.summaryAt (Tab.get_set_self _ _ _)
  case early =>
    have hexec : exec (.commandStatePeriod t) s = .next ((s.at t).commandStateDue).flush := hevent _
    have hearly' : ¬ (s.at t).intake.stateAt ≤ (s.at t).now := Nat.not_le.mpr hearly
    rwa [State.commandStateDue, if_neg hearly', State.flush_of_nothingDue hdue] at hexec
end

section
/-!
PROOFS. Which bytes are a station, group, bank, meter channel or actuator row, and which row (11.6 and the tables of 3.1, 6.1,
8.2; R81, R92, R95).
-/

namespace Sys2Proof.Machine

/-! ## Field codes -/

theorem rowPort_eq_some_iff {n : Nat} {p : Port} : rowPort n = some p ↔ n = 1 ∧ p = .M ∨ n = 2 ∧ p = .T := by
  unfold rowPort
  split <;> simp_all [eq_comm]

theorem rowActKind_eq_some_iff {n : Nat} {k : ActKind} : rowActKind n = some k ↔
    n = 0 ∧ k = .mainRudder ∨ n = 1 ∧ k = .flankingRudder ∨ n = 2 ∧ k = .thruster := by
  unfold rowActKind
  split <;> simp_all [eq_comm]

theorem rowChanKind_eq_some_iff {n : Nat} {k : ChanKind} :
    rowChanKind n = some k ↔ n = 0 ∧ k = .engine ∨ n = 1 ∧ k = .transfer := by
  unfold rowChanKind
  split <;> simp_all [eq_comm]

/-- R92: the bytes of a reach path name its couplings in order, none of them twice. -/
theorem reachPathOf_eq_some_iff {vs : List Nat} {path : List (Fin 32)} :
    reachPathOf vs = some path ↔ path.map Fin.val = vs ∧ path.Nodup := by
  induction vs generalizing path with
  | nil => cases path <;> simp [reachPathOf]
  | cons v vs ih =>
    cases path with
    | nil =>
      simp only [reachPathOf, List.map_nil]
      split <;> simp
    | cons c cs =>
      have hcons : reachPathOf (v :: vs) = some (c :: cs) ↔ idx 32 v = some c ∧ reachPathOf vs = some cs ∧ c ∉ cs := by
        simp only [reachPathOf]
        split
        · next c' cs' hc hcs =>
          rw [hc, hcs, Option.ite_none_left_eq_some, List.contains_iff_mem]
          simp only [Option.some.injEq, List.cons.injEq]
          constructor
          · rintro ⟨hmem, rfl, rfl⟩
            exact ⟨rfl, rfl, hmem⟩
          · rintro ⟨rfl, rfl, hmem⟩
            exact ⟨hmem, rfl, rfl⟩
        · next hnone => exact ⟨nofun, fun ⟨hc, hcs, _⟩ => absurd hcs (hnone c cs hc)⟩
      rw [hcons, ih, idx_eq_some_iff, List.map_cons, List.cons.injEq, List.nodup_cons, eq_comm (a := v)]
      constructor
      · rintro ⟨hv, ⟨hvs, hnodup⟩, hmem⟩
        exact ⟨⟨hv, hvs⟩, hmem, hnodup⟩
      · rintro ⟨⟨hv, hvs⟩, hmem, hnodup⟩
        exact ⟨hv, ⟨hvs, hnodup⟩, hmem⟩

/-! ## Rows -/

/-- Section 3.1. -/
theorem stationRowOf_iff {own : Nat} {m : List Byte} {r : StationRow} : stationRowOf own m = some r ↔
    r.node = u8 m 3 ∧ NodeOk own r.node
    ∧ u8 m 4 < 16 ∧ r.prop = (u8 m 4).testBit 0 ∧ r.steer = (u8 m 4).testBit 1 ∧ r.couple = (u8 m 4).testBit 2
    ∧ r.override = (u8 m 4).testBit 3
    ∧ r.speedTol = u16 m 5 ∧ r.speedTol ≤ 2000 ∧ r.helmTol = u16 m 7 ∧ r.helmTol ≤ 200 := by
  obtain ⟨node, prop, steer, couple, override, speedTol, helmTol⟩ := r
  rw [stationRowOf, Option.ite_none_right_eq_some]
  simp only [Bool.and_eq_true, decide_eq_true_eq, nodeOk_iff, Option.some.injEq, StationRow.mk.injEq]
  constructor
  · rintro ⟨⟨⟨⟨hnode, hrights⟩, hspeed⟩, hhelm⟩, rfl, rfl, rfl, rfl, rfl, rfl, rfl⟩
    exact ⟨rfl, hnode, hrights, rfl, rfl, rfl, rfl, rfl, hspeed, rfl, hhelm⟩
  · rintro ⟨rfl, hnode, hrights, rfl, rfl, rfl, rfl, rfl, hspeed, rfl, hhelm⟩
    exact ⟨⟨⟨⟨hnode, hrights⟩, hspeed⟩, hhelm⟩, rfl, rfl, rfl, rfl, rfl, rfl, rfl⟩

/-- R81. -/
theorem groupRowOf_iff {m : List Byte} {r : GroupRow} : groupRowOf m = some r ↔
    r.tolerance = u16 m 3 ∧ 10 ≤ r.tolerance ∧ r.tolerance ≤ 2000
    ∧ r.holdLimit = u16 m 5 ∧ 1000 ≤ r.holdLimit ∧ r.holdLimit ≤ 30000 := by
  obtain ⟨tolerance, holdLimit⟩ := r
  rw [groupRowOf, Option.ite_none_right_eq_some]
  simp only [Bool.and_eq_true, within_iff, Option.some.injEq, GroupRow.mk.injEq]
  constructor
  · rintro ⟨⟨⟨hlow, hhigh⟩, hshort, hlong⟩, rfl, rfl⟩
    exact ⟨rfl, hlow, hhigh, rfl, hshort, hlong⟩
  · rintro ⟨rfl, hlow, hhigh, rfl, hshort, hlong⟩
    exact ⟨⟨⟨hlow, hhigh⟩, hshort, hlong⟩, rfl, rfl⟩

/-- R95. -/
theorem gainsOf_iff {m : List Byte} {r : Gains} : gainsOf m = some r ↔
    r.ahead = i16 m 3 ∧ r.astern = i16 m 5 ∧ r.neutral = i16 m 7
    ∧ -1000 ≤ r.ahead ∧ r.ahead ≤ 1000 ∧ -1000 ≤ r.astern ∧ r.astern ≤ 1000
    ∧ -1000 ≤ r.neutral ∧ r.neutral ≤ 1000 := by
  obtain ⟨ahead, astern, neutral⟩ := r
  simp only [gainsOf, Option.ite_none_right_eq_some, Bool.and_eq_true, decide_eq_true_eq, Option.some.injEq, Gains.mk.injEq]
  constructor
  · rintro ⟨⟨⟨⟨h1, h2⟩, h3, h4⟩, h5, h6⟩, rfl, rfl, rfl⟩
    exact ⟨rfl, rfl, rfl, h1, h2, h3, h4, h5, h6⟩
  · rintro ⟨rfl, rfl, rfl, h1, h2, h3, h4, h5, h6⟩
    exact ⟨⟨⟨⟨h1, h2⟩, h3, h4⟩, h5, h6⟩, rfl, rfl, rfl⟩

/-- The ranges of section 8.2; the numbers of 16 bits have no other upper bound. -/
theorem ChanRow.inRange_iff {own : Nat} {r : ChanRow} : r.inRange own = true ↔
    NodeOk own r.node ∧ (1 ≤ r.supplyPulse ∧ r.supplyPulse ≤ 65535)
    ∧ (r.kind = .engine ∧ r.returnPulse.isSome = true ∨ r.kind = .transfer ∧ r.returnPulse = none)
    ∧ (1 ≤ r.cap ∧ r.cap ≤ 65535) ∧ (500 ≤ r.timeout ∧ r.timeout ≤ 60000) ∧ 6000 ≤ r.density ∧ r.density ≤ 10000 := by
  unfold ChanRow.inRange
  cases hkind : r.kind <;> simp [nodeOk_iff, within_iff, and_assoc]

/-- An actuator's full scale is in range: 1,000 of a thruster, up to 900 of a rudder (6.1). -/
theorem ActRow.inRange_iff {own : Nat} {r : ActRow} : r.inRange own = true ↔
    NodeOk own r.node ∧ (if r.kind = .thruster then r.fullScale = 1000 else 1 ≤ r.fullScale ∧ r.fullScale ≤ 900)
    ∧ (1 ≤ r.limit ∧ r.limit ≤ r.fullScale) ∧ (1 ≤ r.rate ∧ r.rate ≤ r.fullScale)
    ∧ (50 ≤ r.refresh ∧ r.refresh ≤ 1000) ∧ 200 ≤ r.statusTimeout ∧ r.statusTimeout ≤ 5000 := by
  unfold ActRow.inRange
  cases hkind : r.kind <;> simp [nodeOk_iff, within_iff, and_assoc]

/-- A channel's kind and return pulse: an ENGINE channel has one, a TRANSFER channel none, and 0 is the absent one (8.2). -/
theorem chanKind_pulse_iff {n v : Nat} {k : ChanKind} {pulse : Option Nat} :
    (rowChanKind n = some k ∧ pulse = absentAs 0 v
      ∧ (k = .engine ∧ pulse.isSome = true ∨ k = .transfer ∧ pulse = none)) ↔
    (n = 0 ∧ k = .engine ∧ pulse = some v ∧ v ≠ 0 ∨ n = 1 ∧ k = .transfer ∧ pulse = none ∧ v = 0) := by
  rw [rowChanKind_eq_some_iff]
  by_cases hv : v = 0
  · have habsent : absentAs 0 v = none := if_pos hv
    rw [habsent]
    constructor
    · rintro ⟨⟨hn, rfl⟩ | ⟨hn, rfl⟩, rfl, ⟨-, hsome⟩ | ⟨hk, -⟩⟩
      · nomatch hsome
      · nomatch hk
      · nomatch hsome
      · exact .inr ⟨hn, rfl, rfl, hv⟩
    · rintro (⟨-, -, -, hne⟩ | ⟨hn, rfl, rfl, -⟩)
      · exact absurd hv hne
      · exact ⟨.inr ⟨hn, rfl⟩, rfl, .inr ⟨rfl, rfl⟩⟩
  · have hpresent : absentAs 0 v = some v := if_neg hv
    rw [hpresent]
    constructor
    · rintro ⟨⟨hn, rfl⟩ | ⟨hn, rfl⟩, rfl, ⟨hk, -⟩ | ⟨-, hnone⟩⟩
      · exact .inl ⟨hn, rfl, rfl, hv⟩
      · nomatch hnone
      · nomatch hk
      · nomatch hnone
    · rintro (⟨hn, rfl, rfl, -⟩ | ⟨-, -, -, hzero⟩)
      · exact ⟨.inl ⟨hn, rfl⟩, rfl, .inl ⟨rfl, rfl⟩⟩
      · exact absurd hzero hv

/-- The fields of a channel row, before their ranges. -/
theorem chanRowOf_eq_some_iff {own : Nat} {m : List Byte} {r : ChanRow} : chanRowOf own m = some r ↔
    rowChanKind (u8 m 4) = some r.kind ∧ r.node = u8 m 3 ∧ r.supplyPulse = u16 m 5
    ∧ r.returnPulse = absentAs 0 (u16 m 7) ∧ r.cap = u16 m 9 ∧ r.timeout = u16 m 11 ∧ r.density = u16 m 13
    ∧ r.inRange own = true := by
  obtain ⟨node, kind, supplyPulse, returnPulse, cap, timeout, density⟩ := r
  unfold chanRowOf
  split
  · next kind' hkind =>
    simp only [Option.ite_none_right_eq_some, Option.some.injEq, ChanRow.mk.injEq]
    constructor
    · rintro ⟨hrange, rfl, rfl, rfl, rfl, rfl, rfl, rfl⟩
      exact ⟨hkind, rfl, rfl, rfl, rfl, rfl, rfl, hrange⟩
    · rintro ⟨hk, rfl, rfl, rfl, rfl, rfl, rfl, hrange⟩
      obtain rfl := Option.some.inj (hkind.symm.trans hk)
      exact ⟨hrange, rfl, rfl, rfl, rfl, rfl, rfl, rfl⟩
  · next hnone => exact ⟨nofun, fun ⟨hk, _⟩ => nomatch hnone.symm.trans hk⟩

/-- Section 8.2. -/
theorem chanRowOf_iff {own : Nat} {m : List Byte} {r : ChanRow} : chanRowOf own m = some r ↔
    r.node = u8 m 3 ∧ NodeOk own r.node
    ∧ (u8 m 4 = 0 ∧ r.kind = .engine ∧ r.returnPulse = some (u16 m 7) ∧ u16 m 7 ≠ 0
      ∨ u8 m 4 = 1 ∧ r.kind = .transfer ∧ r.returnPulse = none ∧ u16 m 7 = 0)
    ∧ r.supplyPulse = u16 m 5 ∧ 1 ≤ r.supplyPulse ∧ r.cap = u16 m 9 ∧ 1 ≤ r.cap
    ∧ r.timeout = u16 m 11 ∧ 500 ≤ r.timeout ∧ r.timeout ≤ 60000
    ∧ r.density = u16 m 13 ∧ 6000 ≤ r.density ∧ r.density ≤ 10000 := by
  have hsupply := u16_lt m 5
  have hcap := u16_lt m 9
  rw [chanRowOf_eq_some_iff, ChanRow.inRange_iff]
  constructor
  · rintro ⟨hkind, hnode, hs, hreturn, hc, ht, hd, hok, ⟨hs1, -⟩, hpulse, ⟨hc1, -⟩, ⟨ht1, ht2⟩, hd1, hd2⟩
    exact ⟨hnode, hok, chanKind_pulse_iff.mp ⟨hkind, hreturn, hpulse⟩, hs, hs1, hc, hc1, ht, ht1, ht2, hd, hd1, hd2⟩
  · rintro ⟨hnode, hok, hpulse, hs, hs1, hc, hc1, ht, ht1, ht2, hd, hd1, hd2⟩
    obtain ⟨hkind, hreturn, hpulse⟩ := chanKind_pulse_iff.mpr hpulse
    exact ⟨hkind, hnode, hs, hreturn, hc, ht, hd, hok, ⟨hs1, by omega⟩, hpulse, ⟨hc1, by omega⟩, ⟨ht1, ht2⟩, hd1, hd2⟩

/-- The fields of an actuator row, before their ranges. -/
theorem actRowOf_eq_some_iff {own : Nat} {m : List Byte} {r : ActRow} : actRowOf own m = some r ↔
    rowPort (u8 m 4) = some r.port ∧ rowActKind (u8 m 5) = some r.kind ∧ idx 4 (u8 m 6) = some r.lane
    ∧ (u8 m 13 ≤ 4 ∧ reachPathOf ([u8 m 14, u8 m 15, u8 m 16, u8 m 17].take (u8 m 13)) = some r.path)
    ∧ r.node = u8 m 3 ∧ r.fullScale = u16 m 7 ∧ r.limit = u16 m 9 ∧ r.rate = u16 m 11 ∧ r.refresh = u16 m 18
    ∧ r.statusTimeout = u16 m 20 ∧ r.inRange own = true := by
  obtain ⟨node, port, kind, lane, fullScale, limit, rate, path, refresh, statusTimeout⟩ := r
  rw [← Option.ite_none_right_eq_some]
  unfold actRowOf
  split
  · next port' kind' lane' path' hport hkind hlane hpath =>
    rw [hport, hkind, hlane, hpath]
    simp only [Option.ite_none_right_eq_some, Option.some.injEq, ActRow.mk.injEq]
    constructor
    · rintro ⟨hrange, rfl, rfl, rfl, rfl, rfl, rfl, rfl, rfl, rfl, rfl⟩
      exact ⟨rfl, rfl, rfl, rfl, rfl, rfl, rfl, rfl, rfl, rfl, hrange⟩
    · rintro ⟨rfl, rfl, rfl, rfl, rfl, rfl, rfl, rfl, rfl, rfl, hrange⟩
      exact ⟨hrange, rfl, rfl, rfl, rfl, rfl, rfl, rfl, rfl, rfl, rfl⟩
  · next hnone => exact ⟨nofun, fun ⟨hport, hkind, hlane, hpath, _⟩ => absurd hpath (hnone _ _ _ _ hport hkind hlane)⟩

/-- Section 6.1. -/
theorem actRowOf_iff {own : Nat} {m : List Byte} {r : ActRow} : actRowOf own m = some r ↔
    r.node = u8 m 3 ∧ NodeOk own r.node ∧ (u8 m 4 = 1 ∧ r.port = .M ∨ u8 m 4 = 2 ∧ r.port = .T)
    ∧ (u8 m 5 = 0 ∧ r.kind = .mainRudder ∨ u8 m 5 = 1 ∧ r.kind = .flankingRudder ∨ u8 m 5 = 2 ∧ r.kind = .thruster)
    ∧ r.lane.val = u8 m 6 ∧ r.fullScale = u16 m 7
    ∧ (if r.kind = .thruster then r.fullScale = 1000 else 1 ≤ r.fullScale ∧ r.fullScale ≤ 900)
    ∧ r.limit = u16 m 9 ∧ 1 ≤ r.limit ∧ r.limit ≤ r.fullScale
    ∧ r.rate = u16 m 11 ∧ 1 ≤ r.rate ∧ r.rate ≤ r.fullScale
    ∧ u8 m 13 ≤ 4 ∧ r.path.map Fin.val = [u8 m 14, u8 m 15, u8 m 16, u8 m 17].take (u8 m 13) ∧ r.path.Nodup
    ∧ r.refresh = u16 m 18 ∧ 50 ≤ r.refresh ∧ r.refresh ≤ 1000
    ∧ r.statusTimeout = u16 m 20 ∧ 200 ≤ r.statusTimeout ∧ r.statusTimeout ≤ 5000 := by
  rw [actRowOf_eq_some_iff, ActRow.inRange_iff, rowPort_eq_some_iff, rowActKind_eq_some_iff, idx_eq_some_iff,
    reachPathOf_eq_some_iff, eq_comm (a := u8 m 6)]
  constructor
  · rintro ⟨hport, hkind, hlane, ⟨hcount, hpath, hnodup⟩, hnode, hscale, hlimit, hrate, hrefresh, htimeout, hok, hscale',
      ⟨hlimit1, hlimit2⟩, ⟨hrate1, hrate2⟩, ⟨hrefresh1, hrefresh2⟩, htimeout1, htimeout2⟩
    exact ⟨hnode, hok, hport, hkind, hlane, hscale, hscale', hlimit, hlimit1, hlimit2, hrate, hrate1, hrate2, hcount, hpath,
      hnodup, hrefresh, hrefresh1, hrefresh2, htimeout, htimeout1, htimeout2⟩
  · rintro ⟨hnode, hok, hport, hkind, hlane, hscale, hscale', hlimit, hlimit1, hlimit2, hrate, hrate1, hrate2, hcount, hpath,
      hnodup, hrefresh, hrefresh1, hrefresh2, htimeout, htimeout1, htimeout2⟩
    exact ⟨hport, hkind, hlane, ⟨hcount, hpath, hnodup⟩, hnode, hscale, hlimit, hrate, hrefresh, htimeout, hok, hscale',
      ⟨hlimit1, hlimit2⟩, ⟨hrate1, hrate2⟩, ⟨hrefresh1, hrefresh2⟩, htimeout1, htimeout2⟩

end Sys2Proof.Machine
end

section
/-!
PROOFS. LOAD_ROW of the station, group, bank, meter channel and actuator tables as their owners answer it (R32, R81, R92, R94,
R95, R132).
-/

namespace Sys2Proof.Machine

/-! ## Indexed tables whose rows name one node each -/

/-- What LOAD_ROW of such a table answers: a refusal for an index beyond it, for a row that is no row and for the node of another
row, and otherwise what `load` makes of index and row. -/
def loadAt {n : Nat} {ρ α : Type} (rows : Tab n (Option ρ)) (node : ρ → Nat) (v : Nat) (row : Option ρ) (refusal : α)
    (load : Fin n → ρ → α) : α :=
  match idx n v, row with
  | some i, some r => if noOther rows i (fun x => node x == node r) = false then refusal else load i r
  | _, _ => refusal

theorem noOther_eq_false_iff {n : Nat} {ρ : Type} {rows : Tab n (Option ρ)} {i : Fin n} {clash : ρ → Bool} :
    noOther rows i clash = false ↔ ∃ j x, j ≠ i ∧ rows.get j = some x ∧ clash x = true := by
  rw [noOther, List.all_eq_false]
  simp only [Bool.or_eq_true, Bool.not_eq_true', beq_iff_eq, not_or, Bool.not_eq_false, Option.any_eq_true]
  exact ⟨fun ⟨j, _, hj, x, hx, hclash⟩ => ⟨j, x, hj, hx, hclash⟩,
    fun ⟨j, x, hj, hx, hclash⟩ => ⟨j, mem_indices j, hj, x, hx, hclash⟩⟩

section
variable {n v : Nat} {ρ α : Type} {rows : Tab n (Option ρ)} {node : ρ → Nat} {row : Option ρ} {refusal : α}
  {load : Fin n → ρ → α}

theorem loadAt_of_row {i : Fin n} {r : ρ} (hv : v = i.val) (hrow : row = some r)
    (hfree : ∀ j x, j ≠ i → rows.get j = some x → node x ≠ node r) :
    loadAt rows node v row refusal load = load i r := by
  have hnoOther : ¬ noOther rows i (fun x => node x == node r) = false := by
    rw [noOther_eq_false_iff]
    rintro ⟨j, x, hj, hx, hnode⟩
    exact hfree j x hj hx (beq_iff_eq.mp hnode)
  unfold loadAt
  rw [idx_eq_some_iff.mpr hv, hrow]
  exact if_neg hnoOther

theorem loadAt_of_range
    (h : n ≤ v ∨ row = none ∨ ∃ r j x, row = some r ∧ j.val ≠ v ∧ rows.get j = some x ∧ node x = node r) :
    loadAt rows node v row refusal load = refusal := by
  unfold loadAt
  split
  · next i r hi =>
    obtain rfl := idx_eq_some_iff.mp hi
    obtain hbeyond | hnone | ⟨r', j, x, hr, hj, hx, hnode⟩ := h
    · exact absurd hbeyond (Nat.not_le.mpr i.isLt)
    · nomatch hnone
    · obtain rfl := Option.some.inj hr
      have hclash : noOther rows i (fun x => node x == node r) = false :=
        noOther_eq_false_iff.mpr ⟨j, x, fun e => hj (congrArg Fin.val e), hx, beq_iff_eq.mpr hnode⟩
      exact if_pos hclash
  · rfl
end

/-! ## The owners -/

section
variable {m : List Byte} {s : State}

/-- R32. -/
theorem State.loadStation_eq : s.loadStation m =
    loadAt s.intake.stations (·.node) (u8 m 2) (stationRowOf s.node m) (s.refuses .range) fun i row =>
      if s.inCommand i then s.refuses .rowInUse
      else State.done { s with intake := { s.intake with
        stations := s.intake.stations.set i (some row), refusals := s.intake.refusals.set i 0 } } := by
  unfold State.loadStation loadAt
  cases idx 4 (u8 m 2) <;> cases stationRowOf s.node m <;> rfl

theorem State.inCommand_iff {i : Fin 4} :
    s.inCommand i = true ↔ s.intake.prop.station = some i ∨ s.intake.steer.station = some i := by
  rw [State.inCommand, Bool.or_eq_true, beq_iff_eq, beq_iff_eq]

/-- The state with a meter channel row loaded: the channel's record at its power-on values, its meter timer started (R132). -/
def State.channelLoaded (ch : Fin 8) (row : ChanRow) (s : State) : State :=
  { s with fuel := { s.fuel with
      channels := s.fuel.channels.set ch (some row)
      recs := s.fuel.recs.set ch { ChanRec.reset with timer := some (s.now + row.timeout) } } }

/-- R132. -/
theorem State.loadChannel_eq : s.loadChannel m =
    loadAt s.fuel.channels (·.node) (u8 m 2) (chanRowOf s.node m) (s.refuses .range) fun ch row =>
      if s.channelBusy ch then s.refuses .transferActive else (s.channelLoaded ch row).done := by
  unfold State.loadChannel loadAt
  cases idx 8 (u8 m 2) <;> cases chanRowOf s.node m <;> rfl

theorem State.channelBusy_of_transfer {ch : Fin 8} {x : Xfer}
    (h : s.transfers.active = some x ∨ s.transfers.waiting = some x) (hch : x.channel = ch) :
    s.channelBusy ch = true := by
  rw [State.channelBusy, Bool.or_eq_true, Option.any_eq_true, Option.any_eq_true]
  exact h.imp (fun ha => ⟨x, ha, beq_iff_eq.mpr hch⟩) fun hw => ⟨x, hw, beq_iff_eq.mpr hch⟩

/-- The state with an actuator row in place of the row at an index, and its record as it was. -/
def State.actRowLoaded (a : Fin 8) (row : ActRow) (s : State) : State :=
  { s with steering := { s.steering with rows := s.steering.rows.set a (some row) } }

/-- The state with an actuator row loaded: the actuator's record at its reset values, its status timer started in COORDINATING
(R92, R94). -/
def State.actuatorLoaded (a : Fin 8) (row : ActRow) (s : State) : State :=
  let reset := ((s.actRowLoaded a row).putAct a ActRec.reset).dueHelm
  if s.mgmt.mode = .coordinating then reset.startActTimer a else reset

/-- R92, R94. -/
theorem State.loadActuator_eq : s.loadActuator m =
    loadAt s.steering.rows (·.node) (u8 m 2) (actRowOf s.node m) (s.refuses .range) fun a row =>
      if (s.act a).state = .tracking then s.refuses .badState else (s.actuatorLoaded a row).done := by
  unfold State.loadActuator loadAt
  cases idx 8 (u8 m 2) <;> cases actRowOf s.node m <;> rfl

/-- R95. -/
theorem State.loadBank_of_row {b : Bank} {a : Fin 8} {row : Gains} (hbank : bankOf m = b) (hb : b ≠ s.steering.active)
    (ha : u8 m 2 = a.val) (hrow : gainsOf m = some row) :
    s.loadBank m = State.done { s with steering :=
      { s.steering.setBank b ((s.steering.bank b).set a (some row)) with complete := false } } := by
  rw [State.loadBank, hbank, idx_eq_some_iff.mpr ha, hrow]
  exact if_neg hb

theorem State.loadBank_of_active {b : Bank} (hbank : bankOf m = b) (hb : b = s.steering.active) :
    s.loadBank m = s.refuses .rowInUse := by
  rw [State.loadBank, hbank]
  exact if_pos hb

theorem State.loadBank_of_range {b : Bank} (hbank : bankOf m = b) (hb : b ≠ s.steering.active)
    (h : 8 ≤ u8 m 2 ∨ gainsOf m = none) : s.loadBank m = s.refuses .range := by
  rw [State.loadBank, hbank]
  refine (if_neg hb).trans ?_
  obtain hbeyond | hnone := h
  · rw [idx_eq_none_iff.mpr hbeyond]
  · rw [hnone]
    cases idx 8 (u8 m 2) <;> rfl

/-- The state with a group row loaded (R81). -/
def State.groupLoaded (g : Fin 2) (row : GroupRow) (s : State) : State :=
  { s with groups := { s.groups with rows := s.groups.rows.set g (some row) } }

/-- R81. -/
theorem State.loadGroup_of_row {g : Fin 2} {row : GroupRow} (hg : u8 m 2 = g.val) (hrow : groupRowOf m = some row) :
    s.loadGroup m = ((s.groupLoaded g row).groupHold g).done := by
  rw [State.loadGroup, idx_eq_some_iff.mpr hg, hrow]
  rfl

theorem State.loadGroup_of_range (h : 2 ≤ u8 m 2 ∨ groupRowOf m = none) : s.loadGroup m = s.refuses .range := by
  rw [State.loadGroup]
  obtain hbeyond | hnone := h
  · rw [idx_eq_none_iff.mpr hbeyond]
  · rw [hnone]
    cases idx 2 (u8 m 2) <;> rfl

/-- A hold timer is read against the hold limit just loaded. -/
theorem State.groupHold_loaded {g : Fin 2} {row : GroupRow} : (s.groupLoaded g row).groupHold g =
    if isDue ((s.groups.recs.get g).holdStart.map (· + row.holdLimit)) s.now then (s.groupLoaded g row).expireHold g
    else s.groupLoaded g row := by
  have hrow : (s.groupLoaded g row).groups.rows.get g = some row := Tab.get_set_self _ _ _
  rw [State.groupHold, hrow]
  rfl
end

/-! ## The actuator's record -/

/-- An actuator's record written: beside it, at most the helm summary becomes due (R107). -/
theorem State.putAct_eq (a : Fin 8) (r : ActRec) (s : State) :
    s.putAct a r = { s.setAct a r with due := (s.putAct a r).due } := by
  unfold State.putAct
  dsimp only
  split <;> rfl

theorem State.startActTimer_of_row {a : Fin 8} {row : ActRow} {s : State} (h : s.steering.rows.get a = some row) :
    s.startActTimer a = s.setAct a { s.act a with statusTimer := some (s.now + row.statusTimeout) } := by
  rw [State.startActTimer, h]
  exact if_pos rfl

theorem Tab.set_set {n : Nat} {α : Type} (v : Tab n α) (i : Fin n) (x y : α) : (v.set i x).set i y = v.set i y :=
  Tab.ext_get fun j => by simp only [Tab.get_set]; split <;> rfl

theorem State.setAct_setAct (a : Fin 8) (r r' : ActRec) (s : State) : (s.setAct a r).setAct a r' = s.setAct a r' := by
  unfold State.setAct
  rw [Tab.set_set]

/-- The record of an actuator whose row is loaded (R94). -/
def ActRec.loaded (row : ActRow) (s : State) : ActRec :=
  { ActRec.reset with
    statusTimer := if s.mgmt.mode = .coordinating then some (s.now + row.statusTimeout) else none }

/-- R92, R94: row and record are replaced, and the helm summary is due. -/
theorem State.actuatorLoaded_eq (a : Fin 8) (row : ActRow) (s : State) : ∃ due, s.actuatorLoaded a row =
    { (s.actRowLoaded a row).setAct a (ActRec.loaded row s) with due := due } := by
  obtain ⟨due, hdue⟩ : ∃ due, ((s.actRowLoaded a row).putAct a ActRec.reset).dueHelm =
      State.setAct a ActRec.reset { s.actRowLoaded a row with due := due } := by
    refine ⟨((s.actRowLoaded a row).putAct a ActRec.reset).dueHelm.due, ?_⟩
    rw [State.putAct_eq]
    rfl
  have hrow : (State.setAct a ActRec.reset { s.actRowLoaded a row with due := due }).steering.rows.get a = some row :=
    Tab.get_set_self _ _ _
  have hact : (State.setAct a ActRec.reset { s.actRowLoaded a row with due := due }).act a = ActRec.reset :=
    Tab.get_set_self _ _ _
  refine ⟨due, ?_⟩
  rw [State.actuatorLoaded, hdue]
  by_cases hmode : s.mgmt.mode = .coordinating
  · rw [if_pos hmode, State.startActTimer_of_row hrow, hact, State.setAct_setAct, ActRec.loaded, if_pos hmode]
    rfl
  · rw [if_neg hmode, ActRec.loaded, if_neg hmode]
    rfl

theorem Silent.actuatorLoaded (a : Fin 8) (row : ActRow) (s : State) : Silent s (s.actuatorLoaded a row) := by
  obtain ⟨due, h⟩ := State.actuatorLoaded_eq a row s
  rw [h]
  exact .of_eq rfl rfl rfl rfl

theorem State.quiet_actuatorLoaded (a : Fin 8) (row : ActRow) (s : State) : (s.actuatorLoaded a row).quiet =
    ((s.actRowLoaded a row).setAct a (ActRec.loaded row s)).quiet := by
  obtain ⟨due, h⟩ := State.actuatorLoaded_eq a row s
  rw [h]
  rfl

end Sys2Proof.Machine
end

section
/-!
PROOFS. The members of a step group that still lag when its hold ends, and the group load that ends it (R81, R87, R90).
-/

namespace Sys2Proof.Machine

/-! ## Raising an event, as a frame on B's queue (R163) -/

theorem Event.outOfStep_ne_portCongested : Event.outOfStep ≠ .portCongested := nofun

/-- Latching an event other than the two counted in leaves the frames that those may still send. -/
theorem State.notices_latch {e : Event} (hcongested : e ≠ .portCongested) (hunreachable : e ≠ .actuatorUnreachable)
    (d : Option Nat) (s : State) : (s.latch e d).notices = s.notices := by
  rw [State.notices, State.notices, State.congestedNotice_congr (State.latch_flag_ne hcongested.symm d s),
    State.unreachableNotice_congr (State.latch_flag_ne hunreachable.symm d s)]

theorem Appends.raise {e : Event} (hcongested : e ≠ .portCongested) (hunreachable : e ≠ .actuatorUnreachable)
    (d : Option Nat) (s : State) : Appends 1 s (s.raise e d) := by
  have hlatch : Appends 0 s (s.latch e d) :=
    .of_eq (by rw [State.latch_port]) (State.notices_latch hcongested hunreachable d s).le
  have hsent : Appends 1 s ((s.latch e d).offer .B .originated ((s.latch e d).frameOf .attention 0 (attentionData e d))) :=
    hlatch.trans (.offer (.inr rfl) .B .originated _)
  unfold State.raise State.raiseWith
  exact relation_cond hsent (hlatch.mono (Nat.zero_le 1))

theorem Steers.raise {e : Event} (hcongested : e ≠ .portCongested) (hunreachable : e ≠ .actuatorUnreachable)
    (d : Option Nat) (s : State) : Steers [e] 1 s (s.raise e d) where
  now := (Calm.raise e d s).now
  lessDrive := State.lessDrive_congr (Calm.raise e d s).quiet
  flags _ he hes := State.raiseWith_flag_ne he (fun h => hes (List.mem_singleton.mpr h)) d _ s
  appends := .raise hcongested hunreachable d s

/-- A raised flag is set, whether or not it was before. -/
theorem EventFlag.isSet_raise (fl : EventFlag) (d : Option Nat) : (fl.raise d).isSet = true := by
  unfold EventFlag.raise
  split
  · next h => exact h
  · rfl

/-! ## Leaving a step group (R82, R90) -/

theorem State.mem_members {g : Fin 2} {l : Fin 4} {s : State} :
    l ∈ s.members g ↔ (s.lane l).inStep = true ∧ ∃ row, s.lanes.rows.get l = some row ∧ row.home = some g := by
  rw [State.members, List.mem_filter, Bool.and_eq_true]
  refine (and_iff_right (mem_indices l)).trans (and_congr_right fun _ => ?_)
  split
  · next row hrow => simp [hrow]
  · next hnone => simp [hnone]

theorem State.members_congr {s t : State} (h : t.lanes = s.lanes) (g : Fin 2) : t.members g = s.members g := by
  unfold State.members State.lane
  rw [h]

/-- A group's record as its emptied in-step set leaves it (R90). -/
def GroupRec.stopped (r : GroupRec) : GroupRec := { r with rampTimer := none, holdStart := none }

theorem State.leaveGroup_of_member {g : Fin 2} {l : Fin 4} {s : State} (h : l ∈ s.members g) :
    s.leaveGroup l = (s.setLane l { s.lane l with inStep := false }).settleGroup g := by
  obtain ⟨hstep, row, hrow, hhome⟩ := State.mem_members.mp h
  unfold State.leaveGroup
  dsimp only
  rw [if_pos hstep, hrow]
  dsimp only
  rw [hhome]
  exact congrArg (State.settleGroup g) (State.putLane_of_state rfl)

theorem State.lanes_settleGroup (g : Fin 2) (s : State) : (s.settleGroup g).lanes = s.lanes := by
  unfold State.settleGroup
  split <;> rfl

theorem State.steering_settleGroup (g : Fin 2) (s : State) : (s.settleGroup g).steering = s.steering := by
  unfold State.settleGroup
  split <;> rfl

theorem State.port_settleGroup (g : Fin 2) (p : Port) (s : State) : (s.settleGroup g).port p = s.port p := by
  unfold State.settleGroup
  split
  · exact State.port_congr rfl p
  · rfl

theorem State.groups_settleGroup (g i : Fin 2) (s : State) : (s.settleGroup g).groups.recs.get i =
    if i = g ∧ s.members g = [] then (s.groups.recs.get g).stopped else s.groups.recs.get i := by
  unfold State.settleGroup
  by_cases hempty : s.members g = []
  · rw [if_pos (List.isEmpty_iff.mpr hempty), State.putGroup, Tab.get_set]
    simp only [hempty, and_true]
    rfl
  · rw [if_neg (mt List.isEmpty_iff.mp hempty), if_neg fun h => hempty h.2]

theorem Cuts.settleGroup (g : Fin 2) (s : State) : Cuts 0 s (s.settleGroup g) := by
  unfold State.settleGroup
  exact relation_cond (.putGroup g _ s) (.refl s)

/-! ## Members dismissed one after another (R87) -/

/-- From `s` to `t` the listed members of a group leave it, OUT_OF_STEP raised for each. -/
structure Dismisses (g : Fin 2) (ls : List (Fin 4)) (s t : State) : Prop extends Steers [.outOfStep] ls.length s t where
  ceils    : t.lanes.ceils = s.lanes.ceils
  steering : t.steering = s.steering
  port     : ∀ p, p ≠ .B → t.port p = s.port p
  lane     : ∀ l, t.lane l = if l ∈ ls then { s.lane l with inStep := false } else s.lane l
  group    : ∀ i, t.groups.recs.get i =
    if i = g ∧ ls ≠ [] ∧ t.members g = [] then (s.groups.recs.get g).stopped else s.groups.recs.get i
  raised   : ls ≠ [] → (t.flag .outOfStep).isSet = true
  unraised : ls = [] → t.flag .outOfStep = s.flag .outOfStep

theorem Dismisses.mem_members {g : Fin 2} {ls : List (Fin 4)} {s t : State} (h : Dismisses g ls s t) {l : Fin 4} :
    l ∈ t.members g ↔ l ∈ s.members g ∧ l ∉ ls := by
  rw [State.mem_members, State.mem_members, h.laneRows, h.lane]
  by_cases hl : l ∈ ls <;> simp [hl]

theorem Dismisses.refl (g : Fin 2) (s : State) : Dismisses g [] s s where
  toSteers := (Steers.refl s).mono (fun _ h => nomatch h) (Nat.le_refl 0)
  ceils := rfl
  steering := rfl
  port _ _ := rfl
  lane _ := (if_neg List.not_mem_nil).symm
  group _ := (if_neg fun h => h.2.1 rfl).symm
  raised h := absurd rfl h
  unraised _ := rfl

/-- One member leaves. -/
theorem Dismisses.one {g : Fin 2} {l : Fin 4} {s : State} (h : l ∈ s.members g) (d : Option Nat) :
    Dismisses g [l] s ((s.leaveGroup l).raise .outOfStep d) := by
  rw [State.leaveGroup_of_member h]
  generalize hleft : s.setLane l { s.lane l with inStep := false } = left
  have hset : Cuts 0 s left := hleft ▸ Cuts.setLane l _ s
  have hcuts : Cuts 0 s (left.settleGroup g) := hset.trans (.settleGroup g left)
  have hraise := Steers.raise Event.outOfStep_ne_portCongested nofun d (left.settleGroup g)
  have hblocks := State.blocks_raise .outOfStep d (left.settleGroup g)
  have hlanes : ((left.settleGroup g).raise .outOfStep d).lanes = left.lanes :=
    (State.lanes_of_blocks hblocks).trans (State.lanes_settleGroup g left)
  have hrecs : left.groups = s.groups := hleft ▸ rfl
  exact {
    toSteers := (hcuts.toSteers.mono (List.forall_mem_nil _) (Nat.le_refl 0)).trans hraise
    ceils := congrArg (fun x => x.ceils) hlanes |>.trans hset.ceils
    steering := by
      refine (congrArg (fun x => x.steering) hblocks).trans ((State.steering_settleGroup g left).trans ?_)
      exact hleft ▸ rfl
    port := fun p hp => by
      rw [(Notified.raise Event.outOfStep_ne_portCongested d _).port p hp, State.port_settleGroup]
      exact hleft ▸ rfl
    lane := fun l' => by
      rw [State.lane, hlanes, ← hleft, State.setLane, Tab.get_set]
      simp only [List.mem_singleton]
      split
      · next e => rw [e]
      · rfl
    group := fun i => by
      have hgroups : ((left.settleGroup g).raise .outOfStep d).groups = (left.settleGroup g).groups :=
        congrArg (fun x => x.groups) hblocks
      rw [State.members_congr hlanes, hgroups, State.groups_settleGroup, hrecs]
      simp
    raised := fun _ => by
      rw [State.raise, State.raiseWith_flag_self Event.outOfStep_ne_portCongested]
      exact EventFlag.isSet_raise _ _
    unraised := nofun }

theorem Dismisses.cons {g : Fin 2} {l : Fin 4} {ls : List (Fin 4)} {s t u : State} (h : Dismisses g [l] s t)
    (k : Dismisses g ls t u) (hl : l ∉ ls) : Dismisses g (l :: ls) s u where
  toSteers := (h.toSteers.trans k.toSteers).mono (fun _ he => he) (by rw [List.length_cons, Nat.add_comm]; exact Nat.le_refl _)
  ceils := k.ceils.trans h.ceils
  steering := k.steering.trans h.steering
  port p hp := (k.port p hp).trans (h.port p hp)
  lane l' := by
    rw [k.lane, h.lane]
    by_cases hmem : l' ∈ ls
    · have hne : l' ∉ [l] := fun e => hl (List.mem_singleton.mp e ▸ hmem)
      rw [if_pos hmem, if_neg hne, if_pos (List.mem_cons_of_mem _ hmem)]
    · rw [if_neg hmem]
      simp only [List.mem_cons, List.not_mem_nil, hmem, or_false]
  group i := by
    have hlater : t.members g = [] → u.members g = [] := fun e =>
      List.eq_nil_iff_forall_not_mem.mpr fun l' hl' => by
        have hmem := (k.mem_members.mp hl').1
        rw [e] at hmem
        nomatch hmem
    by_cases hi : i = g
    · subst hi
      rw [k.group, h.group]
      by_cases hempty : u.members i = []
      · by_cases hls : ls = []
        · have hfirst : t.members i = [] := List.eq_nil_iff_forall_not_mem.mpr fun l' hl' => by
            have hmem : l' ∈ u.members i := k.mem_members.mpr ⟨hl', by simp [hls]⟩
            rw [hempty] at hmem
            nomatch hmem
          simp [hls, hempty, hfirst]
        · have hstopped : ∀ p : Prop, [Decidable p] →
              (if p then (s.groups.recs.get i).stopped else s.groups.recs.get i).stopped = (s.groups.recs.get i).stopped := by
            intro p _
            split <;> rfl
          simp [hls, hempty, hstopped]
      · have hfirst : t.members i ≠ [] := mt hlater hempty
        simp [hempty, hfirst]
    · simp only [k.group, h.group, hi, false_and, if_false]
  raised _ := by
    cases ls with
    | nil =>
      rw [k.unraised rfl]
      exact h.raised nofun
    | cons l' ls => exact k.raised nofun
  unraised e := nomatch e

theorem Dismisses.forEach {g : Fin 2} {ls : List (Fin 4)} (hnodup : ls.Nodup) {s : State} (h : ∀ l ∈ ls, l ∈ s.members g) :
    Dismisses g ls s (forEach ls (fun l s => (s.leaveGroup l).raise .outOfStep (some l.val)) s) := by
  induction ls generalizing s with
  | nil => exact .refl g s
  | cons l ls ih =>
    obtain ⟨hl, hnodup⟩ := List.nodup_cons.mp hnodup
    obtain ⟨hmember, hrest⟩ := List.forall_mem_cons.mp h
    have hone := Dismisses.one hmember (some l.val)
    refine hone.cons (ih hnodup fun l' hl' => hone.mem_members.mpr ⟨hrest l' hl', ?_⟩) hl
    rw [List.mem_singleton]
    rintro rfl
    exact hl hl'

/-! ## The end of a hold (R87) -/

/-- The members that lag by more than the tolerance in force (R87). -/
def State.lateMembers (s : State) (g : Fin 2) : List (Fin 4) :=
  (s.members g).filter fun l => decide (((s.groups.recs.get g).tolerance : Int) < s.lag g l)

theorem State.mem_lateMembers {g : Fin 2} {l : Fin 4} {s : State} : l ∈ s.lateMembers g ↔
    l ∈ s.members g ∧ ((s.groups.recs.get g).tolerance : Int) <
      ((s.groups.recs.get g).point : Int) - (((s.lane l).speed.getD 0 : Nat) : Int) := by
  rw [State.lateMembers, List.mem_filter, decide_eq_true_eq]
  rfl

theorem State.lateMembers_length (s : State) (g : Fin 2) : (s.lateMembers g).length ≤ 4 :=
  (List.length_filter_le _ _).trans (List.length_filter_le _ _)

/-- The state with the hold timer of a group stopped. -/
def State.holdStopped (g : Fin 2) (s : State) : State := s.putGroup g { s.groups.recs.get g with holdStart := none }

theorem Dismisses.expireHold (g : Fin 2) (s : State) :
    Dismisses g (s.lateMembers g) (s.holdStopped g) (s.expireHold g) :=
  have hnodup : (s.lateMembers g).Nodup := ((indices_nodup 4).filter _).filter _
  .forEach hnodup fun _ hl => (State.mem_lateMembers.mp hl).1

theorem Steers.expireHold (g : Fin 2) (s : State) : Steers [.outOfStep] 4 s (s.expireHold g) := by
  have hstopped : Steers [.outOfStep] 0 s (s.holdStopped g) :=
    (Cuts.putGroup g _ s).toSteers.mono (List.forall_mem_nil _) (Nat.le_refl 0)
  have hlength := s.lateMembers_length g
  exact (hstopped.trans (Dismisses.expireHold g s).toSteers).mono (fun _ h => h) (by omega)

section
variable {g : Fin 2} {s : State}

theorem State.ceils_expireHold : (s.expireHold g).lanes.ceils = s.lanes.ceils := (Dismisses.expireHold g s).ceils

theorem State.steering_expireHold : (s.expireHold g).steering = s.steering := (Dismisses.expireHold g s).steering

theorem State.port_expireHold {p : Port} (h : p ≠ .B) : (s.expireHold g).port p = s.port p :=
  ((Dismisses.expireHold g s).port p h).trans (State.port_congr rfl p)

theorem State.lane_expireHold (l : Fin 4) : (s.expireHold g).lane l =
    if l ∈ s.lateMembers g then { s.lane l with inStep := false } else s.lane l := (Dismisses.expireHold g s).lane l

theorem State.group_expireHold_ne {i : Fin 2} (h : i ≠ g) :
    (s.expireHold g).groups.recs.get i = s.groups.recs.get i := by
  rw [(Dismisses.expireHold g s).group, if_neg fun hi => h hi.1]
  exact Tab.get_set_ne _ _ h

/-- R87, R90: the hold timer stops, and with it the ramp timer where every member was late. -/
theorem State.group_expireHold : (s.expireHold g).groups.recs.get g =
    if s.lateMembers g ≠ [] ∧ ∀ l ∈ s.members g, l ∈ s.lateMembers g
    then { s.groups.recs.get g with holdStart := none, rampTimer := none }
    else { s.groups.recs.get g with holdStart := none } := by
  have hdismiss := Dismisses.expireHold g s
  have hstopped : (s.holdStopped g).groups.recs.get g = { s.groups.recs.get g with holdStart := none } :=
    Tab.get_set_self _ _ _
  have hempty : (s.expireHold g).members g = [] ↔ ∀ l ∈ s.members g, l ∈ s.lateMembers g := by
    rw [List.eq_nil_iff_forall_not_mem]
    refine forall_congr' fun l => ?_
    rw [hdismiss.mem_members, not_and, not_not]
    exact Iff.rfl
  rw [hdismiss.group, hstopped]
  simp only [hempty, true_and]
  rfl

theorem State.outOfStep_expireHold (h : s.lateMembers g ≠ []) : ((s.expireHold g).flag .outOfStep).isSet = true :=
  (Dismisses.expireHold g s).raised h

theorem State.outOfStep_expireHold_of_nil (h : s.lateMembers g = []) :
    (s.expireHold g).flag .outOfStep = s.flag .outOfStep := (Dismisses.expireHold g s).unraised h
end

/-! ## A request that ends as its owner leaves the state -/

/-- A request answered DONE: but for the arming record and the reply the step ends as the owner leaves the state, and the reply
stands behind the few orders and ATTENTION frames that the owner queues. -/
theorem answers_of_done {t source : Nat} {r : Req} {m : List Byte} {s s2 u : State} {c : Instr}
    (h : Completes t r source m s s2) (hc : r.command t = some c) (hr : r ≠ .resetArm)
    (ha : r.owner source m s2 = u.done) :
    Answers (exec c s) fun v => v.now = u.now ∧ v.quiet = (u.setArming none).quiet ∧ FlagsKept u v []
      ∧ (∀ p, p ≠ .B → v.port p = u.port p)
      ∧ ∀ n, n ≤ 28 → Appends n s2 u → u.node = s2.node → Replies s2 v source [m.getD 0 0, 0#8] := by
  have hflush := Notified.flush ((u.setArming none).reply source (m.getD 0 0) .done [])
  have harmed : Silent u (u.setArming none) := .setArming none u
  refine ⟨_, exec_of_completes h hc, ?_⟩
  rw [ha, State.conclude, State.armAfter_of_ne hr]
  refine ⟨?now, (State.quiet_flush _).trans (State.quiet_reply _ _ _ _ _), fun e he hes => ?flag, fun p hp => ?port,
    fun n hn hu hnode => ?replies⟩
  case now => exact (hflush.now.trans (State.reply_now _ _ _ _ _)).trans harmed.now
  case flag => exact ((hflush.flags e he hes).trans (State.reply_flag he _ _ _ _ _)).trans (harmed.flag e)
  case port => exact ((hflush.port p hp).trans (State.reply_port_ne hp _ _ _ _ _)).trans (State.port_congr rfl p)
  case replies => exact (hu.trans (.of_silent harmed)).replies hn hnode

end Sys2Proof.Machine
end

section
/-!
PROOFS. The row loads of the station, group, bank, meter channel, actuator and timing tables (O16; R32, R33, R81, R92, R94, R95,
R132).
-/

namespace Sys2Proof.Machine

/-! ## The timing row loaded (R33) -/

/-- From `s` to `t` the clock, the record of PROP and the timing row stay. -/
structure PropKept (s t : State) : Prop where
  now           : t.now = s.now
  prop          : t.intake.prop = s.intake.prop
  demandTimeout : t.intake.demandTimeout = s.intake.demandTimeout
  holdTime      : t.intake.holdTime = s.intake.holdTime

theorem PropKept.refl (s : State) : PropKept s s := ⟨rfl, rfl, rfl, rfl⟩

theorem PropKept.trans {s t u : State} (h : PropKept s t) (g : PropKept t u) : PropKept s u :=
  ⟨g.now.trans h.now, g.prop.trans h.prop, g.demandTimeout.trans h.demandTimeout, g.holdTime.trans h.holdTime⟩

theorem PropKept.of_driven {s t : State} (h : Driven s t) : PropKept s t :=
  ⟨h.now, h.job .prop, congrArg (fun u => u.intake.demandTimeout) h.fixed, congrArg (fun u => u.intake.holdTime) h.fixed⟩

theorem PropKept.putJob (r : JobRec) (s : State) : PropKept s (s.putJob .steer r) := by
  rw [State.putJob_eq]
  exact relation_cond ⟨rfl, rfl, rfl, rfl⟩ ⟨rfl, rfl, rfl, rfl⟩

theorem PropKept.setHelm (v : Int) (s : State) : PropKept s (s.setHelm v) := by
  have hhelm : PropKept s (s.withHelm v) := ⟨rfl, rfl, rfl, rfl⟩
  have hdue : ∀ u : State, PropKept u u.dueHelm := fun _ => ⟨rfl, rfl, rfl, rfl⟩
  unfold State.setHelm
  exact relation_cond (.refl s) ((hhelm.trans (.of_driven (.evaluateAll _))).trans (hdue _))

/-- The loss of STEER is none of PROP's. -/
theorem PropKept.degrade (s : State) : PropKept s (s.degrade .steer) := by
  rw [State.degrade_steer]
  exact ((PropKept.putJob _ s).trans (.setHelm 0 _)).trans (.of_driven (.raise _ _ _))

theorem PropKept.timeoutExpires (s : State) : PropKept s (s.timeoutExpires .steer) := by
  have hput := PropKept.putJob { s.job .steer with loss := .holding s.now } s
  unfold State.timeoutExpires State.beginLoss
  exact relation_cond (relation_cond (hput.trans (.degrade _)) hput) (.refl s)

theorem PropKept.holdExpires (s : State) : PropKept s (s.holdExpires .steer) := by
  unfold State.holdExpires
  exact relation_cond (.degrade s) (.refl s)

/-- The state with a timing row loaded, before any timer is read against it. -/
def State.timingLoaded (m : List Byte) (s : State) : State :=
  { s with intake := { s.intake with demandTimeout := u16 m 3, holdTime := u16 m 5 } }

theorem State.job_timingLoaded (m : List Byte) (j : Job) (s : State) : (s.timingLoaded m).job j = s.job j := by
  cases j <;> rfl

/-- The timers of both jobs read, PROP before STEER (R33). -/
def State.timersRead (s : State) : State :=
  (((s.timeoutExpires .prop).timeoutExpires .steer).holdExpires .prop).holdExpires .steer

section
variable {m : List Byte} {s : State}

theorem State.loadTiming_of_range (h : 500 ≤ u16 m 3 ∧ u16 m 3 ≤ 10000 ∧ u16 m 5 ≤ 30000) :
    s.loadTiming m = (s.timingLoaded m).timersRead.done := by
  obtain ⟨hlow, hhigh, hhold⟩ := h
  exact if_pos (by simp [within_iff, hlow, hhigh, hhold])

theorem State.loadTiming_of_outside (h : ¬ (500 ≤ u16 m 3 ∧ u16 m 3 ≤ 10000 ∧ u16 m 5 ≤ 30000)) :
    s.loadTiming m = s.refuses .range := by
  refine if_neg ?_
  rw [Bool.and_eq_true, within_iff, within_iff]
  exact fun ⟨⟨hlow, hhigh⟩, _, hhold⟩ => h ⟨hlow, hhigh, hhold⟩

theorem State.timersRead_of_early
    (htimeout : ∀ j, (s.job j).loss = .attended → ∀ heard, (s.job j).lastHeard = some heard →
      s.now < heard + s.intake.demandTimeout)
    (hhold : ∀ j since, (s.job j).loss = .holding since → s.now < since + s.intake.holdTime) : s.timersRead = s := by
  rw [State.timersRead, State.timeoutExpires_of_early (htimeout .prop), State.timeoutExpires_of_early (htimeout .steer),
    State.holdExpires_of_early (hhold .prop), State.holdExpires_of_early (hhold .steer)]

/-- R33, R42: the demand timeout of PROP has passed: PROP is HOLDING from this step on, and its hold has not passed too. -/
theorem State.timersRead_of_due {heard : Nat} (hloss : s.intake.prop.loss = .attended)
    (hheard : s.intake.prop.lastHeard = some heard) (hdue : heard + s.intake.demandTimeout ≤ s.now)
    (hhold : 0 < s.intake.holdTime) :
    s.timersRead.intake.prop.loss = .holding s.now ∧ s.timersRead.intake.demandTimeout = s.intake.demandTimeout
      ∧ s.timersRead.intake.holdTime = s.intake.holdTime := by
  have hbegin : s.timeoutExpires .prop = s.putJob .prop { s.intake.prop with loss := .holding s.now } :=
    (State.timeoutExpires_of_due (s := s) (j := .prop) hloss hheard hdue).trans (State.beginLoss_of_pos hhold s.now)
  have hintake := State.intake_putJob .prop { s.intake.prop with loss := .holding s.now } s
  have hnow := (Silent.putJob .prop { s.intake.prop with loss := .holding s.now } s).now
  rw [State.timersRead, hbegin]
  generalize s.putJob .prop { s.intake.prop with loss := .holding s.now } = begun at hintake hnow ⊢
  have hsteer := PropKept.timeoutExpires begun
  generalize begun.timeoutExpires .steer = steered at hsteer ⊢
  have hprop : (steered.job .prop).loss = .holding s.now := by
    have hrec : steered.intake.prop = { s.intake.prop with loss := .holding s.now } :=
      hsteer.prop.trans (congrArg (fun x => x.prop) hintake)
    exact congrArg (fun r => r.loss) hrec
  have htime : steered.intake.holdTime = s.intake.holdTime :=
    hsteer.holdTime.trans (congrArg (fun x => x.holdTime) hintake)
  have hfresh : steered.holdExpires .prop = steered := State.holdExpires_of_early fun since hsince => by
    obtain rfl := Loss.holding.inj (hprop.symm.trans hsince)
    rw [hsteer.now, hnow, htime]
    omega
  have hlast := PropKept.holdExpires steered
  rw [hfresh]
  exact ⟨(congrArg (fun r => r.loss) hlast.prop).trans hprop,
    (hlast.demandTimeout.trans hsteer.demandTimeout).trans (congrArg (fun x => x.demandTimeout) hintake),
    hlast.holdTime.trans htime⟩
end

end Sys2Proof.Machine

open Sys2Proof Sys2Proof.Machine

/-- Settles O16: each load is its owner's answer, by `loadAt` where rows name nodes; the late members of a group whose hold has
passed leave by `State.expireHold`, and the timers are read by `State.timersRead`. -/
theorem rowLoadsReplaceTheRow : Obligations.RowLoadsReplaceTheRow := by
  unfold Obligations.RowLoadsReplaceTheRow
  refine ⟨fun t source m s s2 => ⟨fun i row h hi hrow hfree hprop hsteer => ?station, fun g row h hg hrow hearly => ?group,
      fun a row h ha hrow b hb hstandby => ?bank, fun ch row h hch hrow hfree hidle => ?channel⟩,
    fun t source m s s2 g row since h hg hrow hsince hpassed => ?holdPassed,
    fun t source m s s2 => ⟨fun h hrange => ?stationRange, fun i row h hi hrow hfree hcommand => ?inCommand,
      fun h hrange => ?groupRange, fun b h hb => ⟨fun hactive => ?bankActive, fun hstandby hrange => ?bankRange⟩,
      fun h hrange => ?channelRange, fun ch row h hch hrow hfree ⟨x, hx, hxch⟩ => ?channelBusy,
      fun h hrange => ?actuatorRange, fun a row h ha hrow hfree htracking => ?actuatorTracking⟩,
    fun t source m s s2 a row h ha hrow hfree hstate => ?actuator,
    fun t source m s s2 h => ⟨fun hrange htimeout hhold => ?timing,
      fun ⟨hlow, hhigh, hpos, hlong⟩ heard hheard hloss hdue => ?timedOut, fun hrange => ?timingRange⟩,
    fun own m => ⟨fun r => stationRowOf_iff, fun r => groupRowOf_iff, fun r => gainsOf_iff, fun r => chanRowOf_iff,
      fun r => actRowOf_iff⟩⟩
  case station =>
    have hidle : ¬ s2.inCommand i = true := by
      rw [State.inCommand_iff]
      exact not_or.mpr ⟨hprop, hsteer⟩
    exact served_of_done h rfl nofun (State.loadStation_eq.trans ((loadAt_of_row hi hrow hfree).trans (if_neg hidle)))
      (.of_eq rfl rfl rfl rfl) rfl
  case group =>
    have hrunning : isDue ((s2.groups.recs.get g).holdStart.map (· + row.holdLimit)) s2.now = false := by
      cases hstart : (s2.groups.recs.get g).holdStart with
      | none => rfl
      | some since => exact decide_eq_false (Nat.not_le.mpr (hearly since hstart))
    have hloads : s2.loadGroup m = (s2.groupLoaded g row).done := by
      rw [State.loadGroup_of_row hg hrow, State.groupHold_loaded, hrunning, if_neg Bool.false_ne_true]
    exact served_of_done h rfl nofun hloads (.of_eq rfl rfl rfl rfl) rfl
  case bank =>
    refine served_of_done h rfl nofun (State.loadBank_of_row (bankOf_eq hb) hstandby ha hrow) (.of_eq rfl rfl rfl rfl) ?_
    cases b <;> rfl
  case channel =>
    exact served_of_done h rfl nofun
      (State.loadChannel_eq.trans ((loadAt_of_row hch hrow hfree).trans (if_neg (ne_true_of_eq_false hidle))))
      (.of_eq rfl rfl rfl rfl) rfl
  case holdPassed =>
    intro loaded r late
    have hdue : isDue ((s2.groups.recs.get g).holdStart.map (· + row.holdLimit)) s2.now = true := by
      rw [hsince]
      exact decide_eq_true hpassed
    have hloads : s2.loadGroup m = (loaded.expireHold g).done := by
      rw [State.loadGroup_of_row hg hrow, State.groupHold_loaded, hdue, if_pos rfl]
      rfl
    have hlate : ∀ l, l ∈ loaded.lateMembers g ↔ late l := fun _ => State.mem_lateMembers
    have hsome : loaded.lateMembers g ≠ [] ↔ ∃ l, late l := by
      simp only [ne_eq, List.eq_nil_iff_forall_not_mem, not_forall, not_not, hlate]
    have hall : (∀ l ∈ loaded.members g, l ∈ loaded.lateMembers g) ↔ ∀ l ∈ s2.members g, late l :=
      forall_congr' fun l => imp_congr_right fun _ => hlate l
    have hsilent : Silent s2 loaded := .of_eq rfl rfl rfl rfl
    have hsteers := Steers.expireHold g loaded
    obtain ⟨v, hexec, hnow, hquiet, hflags, hports, hreplies⟩ := answers_of_done h rfl nofun hloads
    have hlane := fun l => State.lane_core_of_quiet hquiet l
    have hgroups : v.groups = (loaded.expireHold g).groups := congrArg (fun x => x.groups) hquiet
    have hflag := hflags .outOfStep Event.outOfStep_ne_portCongested List.not_mem_nil
    refine ⟨v, hexec, hnow.trans hsteers.now, fun e he hes => ?flags, fun p hp => ?queues, ?replies, ?lessDrive, ?ceils,
      ?steering, fun l hl => ?late, fun l hl => ?punctual, fun hl => ?raised, fun hl => ?unraised, fun i hi => ?others,
      fun hl hm => ?stopped, fun hl => ?running⟩
    case flags => exact (hflags e he List.not_mem_nil).trans (hsteers.flags e he hes)
    case queues => rw [hports p hp, State.port_expireHold hp, hsilent.out p]
    case replies =>
      exact hreplies 4 (by omega) ((Appends.of_silent hsilent).trans hsteers.appends)
        (congrArg (fun x => x.node) hsteers.lessDrive)
    case lessDrive =>
      exact (State.lessDrive_congr hquiet).trans (congrArg (State.setArming none) hsteers.lessDrive)
    case ceils => exact (congrArg (fun x => x.lanes.ceils) hquiet).trans State.ceils_expireHold
    case steering =>
      have hsteering : { v.steering with summaryAt := 0 } = { s2.steering with summaryAt := 0 } :=
        (congrArg (fun x => x.steering) hquiet).trans
          (congrArg (fun x : Steering => { x with summaryAt := 0 }) (State.steering_expireHold (s := loaded)))
      exact congrArg (fun x : Steering => { x with summaryAt := v.steering.summaryAt }) hsteering
    case late => exact (hlane l).trans (congrArg LaneRec.core ((State.lane_expireHold l).trans (if_pos ((hlate l).mpr hl))))
    case punctual =>
      exact (hlane l).trans (congrArg LaneRec.core ((State.lane_expireHold l).trans (if_neg (mt (hlate l).mp hl))))
    case raised =>
      rw [hflag]
      exact State.outOfStep_expireHold (hsome.mpr hl)
    case unraised =>
      exact hflag.trans (State.outOfStep_expireHold_of_nil
        (List.eq_nil_iff_forall_not_mem.mpr fun l => mt (hlate l).mp (hl l)))
    case others => rw [hgroups, State.group_expireHold_ne hi]
    case stopped => rw [hgroups, State.group_expireHold, if_pos ⟨hsome.mpr hl, hall.mpr hm⟩]
    case running =>
      rw [hgroups, State.group_expireHold, if_neg fun ⟨hl', hm'⟩ => hl ⟨hsome.mp hl', hall.mp hm'⟩]
  case stationRange => exact refused_of_refuses h rfl nofun (State.loadStation_eq.trans (loadAt_of_range hrange))
  case inCommand =>
    exact refused_of_refuses h rfl nofun
      (State.loadStation_eq.trans ((loadAt_of_row hi hrow hfree).trans (if_pos (State.inCommand_iff.mpr hcommand))))
  case groupRange => exact refused_of_refuses h rfl nofun (State.loadGroup_of_range hrange)
  case bankActive => exact refused_of_refuses h rfl nofun (State.loadBank_of_active (bankOf_eq hb) hactive)
  case bankRange => exact refused_of_refuses h rfl nofun (State.loadBank_of_range (bankOf_eq hb) hstandby hrange)
  case channelRange => exact refused_of_refuses h rfl nofun (State.loadChannel_eq.trans (loadAt_of_range hrange))
  case channelBusy =>
    exact refused_of_refuses h rfl nofun
      (State.loadChannel_eq.trans ((loadAt_of_row hch hrow hfree).trans (if_pos (State.channelBusy_of_transfer hx hxch))))
  case actuatorRange => exact refused_of_refuses h rfl nofun (State.loadActuator_eq.trans (loadAt_of_range hrange))
  case actuatorTracking =>
    exact refused_of_refuses h rfl nofun
      (State.loadActuator_eq.trans ((loadAt_of_row ha hrow hfree).trans (if_pos htracking)))
  case actuator =>
    exact served_of_done h rfl nofun
      (State.loadActuator_eq.trans ((loadAt_of_row ha hrow hfree).trans (if_neg hstate)))
      (.actuatorLoaded a row s2) (State.quiet_actuatorLoaded a row s2)
  case timing =>
    have hloads : s2.loadTiming m = (s2.timingLoaded m).done := by
      rw [State.loadTiming_of_range hrange, State.timersRead_of_early (s := s2.timingLoaded m)]
      · exact fun j => by rw [State.job_timingLoaded]; exact htimeout j
      · exact fun j => by rw [State.job_timingLoaded]; exact hhold j
    exact served_of_done h rfl nofun hloads (.of_eq rfl rfl rfl rfl) rfl
  case timedOut =>
    have howner : Req.loadTiming.owner source m s2 = (s2.timingLoaded m).timersRead.done :=
      State.loadTiming_of_range ⟨hlow, hhigh, hlong⟩
    obtain ⟨hprop, htimeout, hhold⟩ := State.timersRead_of_due (s := s2.timingLoaded m) hloss hheard hdue hpos
    obtain ⟨v, hexec, -, hquiet, -⟩ := answers_of_done h rfl nofun howner
    have hintake := congrArg (fun x => x.intake) hquiet
    exact ⟨v, hexec, (congrArg (fun x => x.prop.loss) hintake).trans hprop,
      (congrArg (fun x => x.demandTimeout) hintake).trans htimeout, (congrArg (fun x => x.holdTime) hintake).trans hhold⟩
  case timingRange => exact refused_of_refuses h rfl nofun (State.loadTiming_of_outside hrange)
end

section
/-!
PROOFS. The derate fraction of a coupling by its tension (O43; R78, R108).
-/

namespace Sys2Proof.Machine

/-! ## The fraction (R78) -/

section
variable {row : CoupRow} {x : Nat}

theorem CoupRow.derate_of_le (h : x ≤ row.soft) : row.derate x = 1000 := if_pos h

theorem CoupRow.derate_of_hard_le (hlimits : row.soft < row.hard) (h : row.hard ≤ x) : row.derate x = row.floor := by
  rw [CoupRow.derate, if_neg (by omega), if_pos h]

/-- The numerator of the exact fraction that a tension between the limits takes from 1,000 ‰. -/
def CoupRow.lossPart (row : CoupRow) (x : Nat) : Nat := (1000 - row.floor) * (x - row.soft)

/-- Its denominator. -/
def CoupRow.lossSpan (row : CoupRow) : Nat := row.hard - row.soft

theorem CoupRow.derate_of_between (hsoft : row.soft < x) (hhard : x < row.hard) :
    row.derate x = 1000 - row.lossPart x ⌈/⌉ row.lossSpan := by
  rw [CoupRow.derate, if_neg (by omega), if_neg (by omega), Nat.ceilDiv_eq_add_pred_div, CoupRow.lossPart, CoupRow.lossSpan]
  exact congrArg (fun n => 1000 - n / (row.hard - row.soft)) (Nat.add_sub_assoc (by omega) _).symm

/-- Between the limits the loss is at most all that the floor leaves. -/
theorem CoupRow.ceil_loss_le (hsoft : row.soft < row.hard) (hhard : x ≤ row.hard) :
    row.lossPart x ⌈/⌉ row.lossSpan ≤ 1000 - row.floor := by
  have hspan : 0 < row.lossSpan := Nat.sub_pos_of_lt hsoft
  rw [ceilDiv_le_iff_le_mul hspan, CoupRow.lossPart, CoupRow.lossSpan]
  rw [Nat.mul_comm (row.hard - row.soft)]
  exact Nat.mul_le_mul_left _ (Nat.sub_le_sub_right hhard _)

/-- A number rounded up is the least that reaches the exact fraction. -/
theorem ceilDiv_mul_bounds {part span : Nat} (hspan : 0 < span) :
    part ≤ part ⌈/⌉ span * span ∧ part ⌈/⌉ span * span < part + span := by
  rw [Nat.ceilDiv_eq_add_pred_div]
  have hle := Nat.div_mul_le_self (part + span - 1) span
  have hlt := Nat.lt_div_mul_add hspan (a := part + span - 1)
  omega

/-- The loss is exact but for the rounding up. -/
theorem CoupRow.derate_between_bounds (hfloor : row.floor ≤ 1000) (hsoft : row.soft < x) (hhard : x < row.hard) :
    row.lossPart x ≤ (1000 - row.derate x) * row.lossSpan
      ∧ (1000 - row.derate x) * row.lossSpan < row.lossPart x + row.lossSpan ∧ row.derate x ≤ 1000 := by
  have hlimits : row.soft < row.hard := hsoft.trans hhard
  have hceil := CoupRow.ceil_loss_le hlimits hhard.le
  have hloss : 1000 - row.derate x = row.lossPart x ⌈/⌉ row.lossSpan := by
    rw [CoupRow.derate_of_between hsoft hhard]
    omega
  obtain ⟨hlow, hhigh⟩ := ceilDiv_mul_bounds (part := row.lossPart x) (Nat.sub_pos_of_lt hlimits)
  rw [hloss]
  exact ⟨hlow, hhigh, by rw [CoupRow.derate_of_between hsoft hhard]; exact Nat.sub_le _ _⟩

theorem CoupRow.derate_bounds (hlimits : row.soft < row.hard) (hfloor : row.floor ≤ 1000) :
    row.floor ≤ row.derate x ∧ row.derate x ≤ 1000 := by
  by_cases hsoft : x ≤ row.soft
  · rw [CoupRow.derate_of_le hsoft]
    exact ⟨hfloor, Nat.le_refl _⟩
  · by_cases hhard : row.hard ≤ x
    · rw [CoupRow.derate_of_hard_le hlimits hhard]
      exact ⟨Nat.le_refl _, hfloor⟩
    · have hceil := CoupRow.ceil_loss_le hlimits (Nat.le_of_not_le hhard)
      rw [CoupRow.derate_of_between (by omega) (by omega)]
      omega

/-- A higher tension never gives a higher fraction. -/
theorem CoupRow.derate_succ_le (hlimits : row.soft < row.hard) (hfloor : row.floor ≤ 1000) :
    row.derate (x + 1) ≤ row.derate x := by
  have hnow := CoupRow.derate_bounds (x := x) hlimits hfloor
  have hnext := CoupRow.derate_bounds (x := x + 1) hlimits hfloor
  by_cases hsoft : x ≤ row.soft
  · rw [CoupRow.derate_of_le hsoft]
    exact hnext.2
  · by_cases hhard : row.hard ≤ x + 1
    · rw [CoupRow.derate_of_hard_le hlimits hhard]
      exact hnow.1
    · have hspan : 0 < row.lossSpan := Nat.sub_pos_of_lt hlimits
      have hpart : row.lossPart x ≤ row.lossPart (x + 1) :=
        Nat.mul_le_mul_left _ (Nat.sub_le_sub_right (Nat.le_succ x) _)
      have hceil : row.lossPart x ⌈/⌉ row.lossSpan ≤ row.lossPart (x + 1) ⌈/⌉ row.lossSpan := by
        rw [ceilDiv_le_iff_le_mul hspan]
        exact hpart.trans ((ceilDiv_le_iff_le_mul hspan).mp (Nat.le_refl _))
      rw [CoupRow.derate_of_between (by omega) (by omega), CoupRow.derate_of_between (by omega) (by omega)]
      omega
end

/-! ## The limits of a row (R78, R108) -/

/-- A row that is loaded has its limits from the message, in order, and a floor of at most 1,000 ‰. -/
theorem coupRowOf_limits {own : Nat} {m : List Byte} {r : CoupRow} (h : coupRowOf own m = some r) :
    r.soft = u16 m 11 ∧ r.hard = u16 m 13 ∧ r.soft < r.hard ∧ r.floor ≤ 1000 := by
  unfold coupRowOf at h
  split at h
  · obtain ⟨hrange, hrow⟩ := Option.ite_none_right_eq_some.mp h
    cases hrow
    simp only [CoupRow.inRange, Bool.and_eq_true, within_iff] at hrange
    obtain ⟨⟨⟨⟨⟨⟨⟨⟨⟨-, hhard⟩, hfloor⟩, -⟩, -⟩, -⟩, -⟩, -⟩, -⟩, -⟩ := hrange
    exact ⟨rfl, rfl, hhard.1, hfloor.2⟩
  · nomatch h

theorem State.loadCoupling_of_none {s : State} {m : List Byte} (h : coupRowOf s.node m = none) :
    s.loadCoupling m = s.refuses .range := by
  unfold State.loadCoupling
  rw [h]
  cases idx 32 (u8 m 2) <;> rfl

end Sys2Proof.Machine

open Sys2Proof Sys2Proof.Machine

/-- Settles O43: between the limits the fraction is 1,000 less `lossPart ⌈/⌉ lossSpan`, and a message whose limits are not in
order is no row. -/
theorem theDerateFallsFromSoftToHardLimit : Obligations.TheDerateFallsFromSoftToHardLimit := by
  unfold Obligations.TheDerateFallsFromSoftToHardLimit
  refine ⟨fun row x hlimits hfloor => ?fraction, fun d => ?tension, fun own m row h => ?row,
    fun t source m s s2 h hlimits => ?refused⟩
  case fraction =>
    obtain ⟨hlow, hhigh⟩ := CoupRow.derate_bounds (x := x) hlimits hfloor
    exact ⟨CoupRow.derate_of_le, CoupRow.derate_of_hard_le hlimits, CoupRow.derate_between_bounds hfloor, hlow, hhigh,
      CoupRow.derate_succ_le hlimits hfloor⟩
  case tension =>
    have hmin : (winchReport d).tension = min 4000 (u16 d 0) := rfl
    rw [hmin]
    split <;> omega
  case row =>
    obtain ⟨-, -, hlimits, hfloor⟩ := coupRowOf_limits h
    exact ⟨hlimits, hfloor⟩
  case refused =>
    have hnone : coupRowOf s2.node m = none := by
      refine Option.eq_none_iff_forall_ne_some.mpr fun row hrow => ?_
      obtain ⟨hsoft, hhard, hlt, -⟩ := coupRowOf_limits hrow
      omega
    exact refused_of_refuses h rfl nofun (State.loadCoupling_of_none hnone)
end

section
/-!
PROOFS. What one lane's operation writes: its own record, the actuators that it steers and its orders, and neither another
lane's record nor a group's (R60 to R68, R100); and what a written setpoint leaves (R62, R65 to R67).
-/

namespace Sys2Proof.Machine

/-! ## Records replaced -/

theorem State.lane_setLane (l i : Fin 4) (r : LaneRec) (s : State) :
    (s.setLane l r).lane i = if i = l then r else s.lane i := Tab.get_set _ _ _ _

theorem State.setLane_setLane (l : Fin 4) (r r' : LaneRec) (s : State) :
    (s.setLane l r).setLane l r' = s.setLane l r' := by
  unfold State.setLane
  rw [Tab.set_set]

/-- R124 does not apply to the lane: no release is in progress under its boat. -/
def State.Unhindered (l : Fin 4) (s : State) : Prop :=
  ∀ row, s.lanes.rows.get l = some row → ∀ c, s.releasingUnder row.boat c = false

theorem State.releasingUnder_congr {s t : State} (h : t.lessDrive = s.lessDrive) (b : Boat) (c : Fin 32) :
    t.releasingUnder b c = s.releasingUnder b c := by
  have hrows : t.couplings.rows = s.couplings.rows := congrArg (fun u => u.couplings.rows) h
  have hrecs : t.couplings.recs.map CoupRec.core = s.couplings.recs.map CoupRec.core :=
    congrArg (fun u => u.couplings.recs) h
  have hstate : (t.couplings.recs.get c).state = (s.couplings.recs.get c).state := by
    have hcore := congrArg (fun recs => (recs.get c).state) hrecs
    rwa [Tab.get_map, Tab.get_map] at hcore
  unfold State.releasingUnder
  rw [hrows, hstate]

theorem State.Unhindered.congr {l : Fin 4} {s t : State} (hs : s.Unhindered l) (h : t.lessDrive = s.lessDrive) :
    t.Unhindered l := fun row hrow c => by
  have hrows : t.lanes.rows = s.lanes.rows := congrArg (fun u => u.lanes.rows) h
  rw [State.releasingUnder_congr h]
  exact hs row (hrows ▸ hrow) c

/-- A lane may be written a state: it is active before, or no release is in progress under its boat. -/
def State.MayEnter (l : Fin 4) (st : LaneState) (s : State) : Prop :=
  st.active = true → (s.lane l).state.active = true ∨ s.Unhindered l

/-- A lane record written by which no release is abandoned. -/
theorem State.putLane_of_mayEnter {l : Fin 4} {r : LaneRec} {s : State} (h : s.MayEnter l r.state) :
    s.putLane l r = if (s.lane l).state = r.state then s.setLane l r
      else ((s.setLane l r).dueLane l).evaluateLane l := by
  have hset : s.setLane l r = { s with lanes := { s.lanes with recs := s.lanes.recs.set l r } } := rfl
  unfold State.putLane
  dsimp only
  rw [← hset]
  refine if_congr Iff.rfl rfl ?_
  split
  · next hactive =>
    rw [Bool.and_eq_true, Bool.not_eq_true'] at hactive
    obtain ⟨hnew, hold⟩ := hactive
    have hfree := (h hnew).resolve_left (ne_true_of_eq_false hold)
    split
    · next row hrow =>
      have hdrive := ((Cuts.setLane l r s).trans ((Cuts.of_swept (.dueLane l _)).trans (.of_swept (.evaluateLane l _)))).lessDrive
      refine forEach_of_fixed fun c => if_neg ?_
      rw [State.releasingUnder_congr hdrive, hfree row hrow c]
      exact Bool.false_ne_true
    · rfl
  · rfl

/-! ## Operations of one lane -/

/-- From `s` to `t` what `Cuts` says, and no group record changes, nor a lane record but that of `l`. -/
structure LaneOnly (l : Fin 4) (n : Nat) (s t : State) : Prop extends Cuts n s t where
  groups : t.groups = s.groups
  others : ∀ i, i ≠ l → t.lane i = s.lane i

section
variable {l : Fin 4}

theorem LaneOnly.refl (s : State) : LaneOnly l 0 s s := ⟨.refl s, rfl, fun _ _ => rfl⟩

theorem LaneOnly.trans {n m : Nat} {s t u : State} (h : LaneOnly l n s t) (g : LaneOnly l m t u) :
    LaneOnly l (n + m) s u :=
  ⟨h.toCuts.trans g.toCuts, g.groups.trans h.groups, fun i hi => (g.others i hi).trans (h.others i hi)⟩

theorem LaneOnly.mono {n m : Nat} {s t : State} (h : LaneOnly l n s t) (hnm : n ≤ m) : LaneOnly l m s t :=
  ⟨h.toCuts.mono hnm, h.groups, h.others⟩

theorem LaneOnly.stay (n : Nat) (s : State) : LaneOnly l n s s := (LaneOnly.refl s).mono (Nat.zero_le n)

theorem LaneOnly.cond {n : Nat} {s t u : State} {p : Prop} [Decidable p] (ht : LaneOnly l n s t) (hu : LaneOnly l n s u) :
    LaneOnly l n s (if p then t else u) := relation_cond ht hu

theorem LaneOnly.setLane (r : LaneRec) (s : State) : LaneOnly l 0 s (s.setLane l r) :=
  ⟨.setLane l r s, rfl, fun _ hi => (State.lane_setLane _ _ _ _).trans (if_neg hi)⟩

theorem LaneOnly.of_swept {s t : State} (h : Swept s t) (hlanes : t.lanes = s.lanes) : LaneOnly l 0 s t :=
  ⟨.of_swept h, congrArg (fun u => u.groups) h.undriven, fun i _ => congrArg (fun x => x.recs.get i) hlanes⟩

theorem LaneOnly.putLane {r : LaneRec} {s : State} (h : s.MayEnter l r.state) : LaneOnly l 0 s (s.putLane l r) := by
  rw [State.putLane_of_mayEnter h]
  have hset := LaneOnly.setLane (l := l) r s
  exact .cond hset ((hset.trans (.of_swept (.dueLane l _) rfl)).trans
    (.of_swept (.evaluateLane l _) (State.lanes_evaluateLane l _)))

theorem LaneOnly.unhindered {n : Nat} {s t : State} (h : LaneOnly l n s t) (hs : s.Unhindered l) : t.Unhindered l :=
  hs.congr h.lessDrive

theorem State.mayEnter_of_active {st : LaneState} {s : State} (h : (s.lane l).state.active = true) : s.MayEnter l st :=
  fun _ => .inl h

theorem State.mayEnter_same (s : State) : s.MayEnter l (s.lane l).state := fun h => .inl h

theorem State.lane_putLane_self (r : LaneRec) (s : State) : (s.putLane l r).lane l = r := by
  rw [State.lane_putLane, if_pos rfl]

theorem LaneOnly.governorOrder (row : LaneRow) (gear : Dir) (v : Nat) (s : State) :
    LaneOnly l 1 s (s.governorOrder l row gear v) where
  toCuts := .order (k := .governorOrder) (.inl rfl) _ _ _ s
  groups := congrArg (fun u => u.groups) (State.blocks_order _ _ _ _ s)
  others i _ := congrArg (fun u => u.lanes.recs.get i) (State.blocks_order _ _ _ _ s)

theorem State.lane_governorOrder (row : LaneRow) (gear : Dir) (v : Nat) (i : Fin 4) (s : State) :
    (s.governorOrder l row gear v).lane i = s.lane i :=
  congrArg (fun u => u.lanes.recs.get i) (State.blocks_order _ _ _ _ s)

/-! ## Orders (R68) -/

/-- A lane's record with its refresh timer restarted. -/
def LaneRec.refreshed (r : LaneRec) (row : LaneRow) (now : Nat) : LaneRec :=
  { r with refreshTimer := some (now + row.refresh) }

theorem State.orderLane_of_ordered {s : State} (row : LaneRow) (h : (s.lane l).state.ordered = true) :
    s.orderLane l row = (s.setLane l ((s.lane l).refreshed row s.now)).governorOrder l row (s.lane l).gear
      (s.lane l).setpoint := by
  unfold State.orderLane
  dsimp only
  rw [if_pos h]
  exact congrArg (State.governorOrder l row _ _) (State.putLane_of_state rfl)

theorem LaneOnly.orderLane (row : LaneRow) (s : State) : LaneOnly l 1 s (s.orderLane l row) := by
  cases h : (s.lane l).state.ordered with
  | false =>
    have hstay : s.orderLane l row = s := if_neg (ne_true_of_eq_false h)
    rw [hstay]
    exact .stay 1 s
  | true =>
    rw [State.orderLane_of_ordered row h]
    exact (LaneOnly.setLane _ s).trans (.governorOrder row _ _ _)

theorem State.lane_orderLane {s : State} (row : LaneRow) (h : (s.lane l).state.ordered = true) :
    (s.orderLane l row).lane l = (s.lane l).refreshed row s.now := by
  rw [State.orderLane_of_ordered row h, State.lane_governorOrder, State.lane_setLane, if_pos rfl]

/-! ## RAMPDOWN and DECLUTCH (R62) -/

/-- A lane's record as the lane enters DECLUTCH, before its order (R61, R62). -/
def LaneRec.released (r : LaneRec) (row : LaneRow) (now : Nat) : LaneRec :=
  { r with
    state := .declutch, gear := .neutral, setpoint := row.idle, kickMark := none, kickTimer := none,
    clutchTimer := none, rampTimer := none, neutralTimer := some (now + row.neutralTimeout) }

/-- Its order made (R68). -/
def LaneRec.declutched (r : LaneRec) (row : LaneRow) (now : Nat) : LaneRec := (r.released row now).refreshed row now

/-- The state in which a lane has entered DECLUTCH, before its order. -/
def State.declutching (l : Fin 4) (row : LaneRow) (s : State) : State :=
  ((s.setLane l ((s.lane l).released row s.now)).dueLane l).evaluateLane l

theorem State.declutch_eq {s : State} (row : LaneRow) (hactive : (s.lane l).state.active = true)
    (hother : (s.lane l).state ≠ .declutch) :
    s.declutch l row = ((s.declutching l row).setLane l ((s.lane l).declutched row s.now)).governorOrder l row .neutral
      row.idle := by
  have hput : s.putLane l ((s.lane l).released row s.now) = s.declutching l row :=
    (State.putLane_of_mayEnter (State.mayEnter_of_active hactive)).trans (if_neg hother)
  have hlane : (s.declutching l row).lane l = (s.lane l).released row s.now := by
    rw [State.declutching, State.lane, State.lanes_evaluateLane]
    exact Tab.get_set_self _ _ _
  have hnow : (s.declutching l row).now = s.now := (Swept.evaluateLane l _).silent.now
  have hordered := State.orderLane_of_ordered (s := s.declutching l row) row (by rw [hlane]; rfl)
  rw [hlane, hnow] at hordered
  exact (congrArg (State.orderLane l row) hput).trans hordered

theorem LaneOnly.declutch {s : State} (row : LaneRow) (h : (s.lane l).state.active = true) :
    LaneOnly l 1 s (s.declutch l row) := by
  unfold State.declutch
  refine LaneOnly.trans ?_ (.orderLane row _)
  exact .putLane (State.mayEnter_of_active h)

theorem State.lane_declutch {s : State} (row : LaneRow) : (s.declutch l row).lane l = (s.lane l).declutched row s.now := by
  unfold State.declutch
  rw [State.lane_orderLane row (by rw [State.lane_putLane_self]; rfl), State.lane_putLane_self, (Driven.putLane _ _ s).now]
  rfl

end

/-! ## Setpoints written (R65 to R67) -/

/-- An ordered lane's record as a write of its setpoint leaves it (R62, R65 to R68). -/
def LaneRec.written (r : LaneRec) (row : LaneRow) (v now : Nat) : LaneRec :=
  if r.setpoint = v then r
  else if r.state = .rampdown ∧ v = row.idle then r.declutched row now
  else { r with setpoint := v, refreshTimer := some (now + row.refresh) }

theorem LaneRec.written_setpoint (r : LaneRec) (row : LaneRow) (v now : Nat) : (r.written row v now).setpoint = v := by
  unfold LaneRec.written
  split
  · assumption
  · split
    · next h => exact h.2.symm
    · rfl

theorem LaneRec.written_inStep (r : LaneRec) (row : LaneRow) (v now : Nat) :
    (r.written row v now).inStep = r.inStep := by
  unfold LaneRec.written
  split
  · rfl
  · split <;> rfl

/-- A write takes a lane to DECLUTCH or leaves its state and gear. -/
theorem LaneRec.written_state (r : LaneRec) (row : LaneRow) (v now : Nat) :
    (r.written row v now).state = .declutch
      ∨ (r.written row v now).state = r.state ∧ (r.written row v now).gear = r.gear := by
  unfold LaneRec.written
  split
  · exact .inr ⟨rfl, rfl⟩
  · split
    · exact .inl rfl
    · exact .inr ⟨rfl, rfl⟩

section
variable {l : Fin 4} {row : LaneRow} {v : Nat} {s : State}

theorem State.writeSetpoint_of_eq (h : (s.lane l).setpoint = v) : s.writeSetpoint l row v = s := if_pos h.symm

/-- A lane's record with another setpoint. -/
def LaneRec.withSetpoint (v : Nat) (r : LaneRec) : LaneRec := { r with setpoint := v }

theorem State.writeSetpoint_of_ne (h : (s.lane l).setpoint ≠ v) : s.writeSetpoint l row v =
    if (s.lane l).state = .rampdown ∧ v = row.idle then (s.setLane l ((s.lane l).withSetpoint v)).declutch l row
    else (s.setLane l ((s.lane l).withSetpoint v)).orderLane l row := by
  have hput : s.putLane l ((s.lane l).withSetpoint v) = s.setLane l ((s.lane l).withSetpoint v) := State.putLane_of_state rfl
  rw [← hput]
  exact if_neg (Ne.symm h)

theorem LaneOnly.writeSetpoint (row : LaneRow) (v : Nat) (s : State) : LaneOnly l 1 s (s.writeSetpoint l row v) := by
  by_cases h : (s.lane l).setpoint = v
  · rw [State.writeSetpoint_of_eq h]
    exact .stay 1 s
  · have hset := LaneOnly.setLane (l := l) ((s.lane l).withSetpoint v) s
    rw [State.writeSetpoint_of_ne h]
    split
    · next hramp =>
      refine hset.trans (.declutch row ?_)
      rw [State.lane_setLane, if_pos rfl, LaneRec.withSetpoint, hramp.1]
      rfl
    · exact hset.trans (.orderLane row _)

theorem State.lane_writeSetpoint (h : (s.lane l).state.ordered = true) :
    (s.writeSetpoint l row v).lane l = (s.lane l).written row v s.now := by
  unfold LaneRec.written
  by_cases hv : (s.lane l).setpoint = v
  · rw [State.writeSetpoint_of_eq hv, if_pos hv]
  · have hset : (s.setLane l ((s.lane l).withSetpoint v)).lane l = (s.lane l).withSetpoint v := by
      rw [State.lane_setLane, if_pos rfl]
    rw [State.writeSetpoint_of_ne hv, if_neg hv]
    split
    · rw [State.lane_declutch, hset]
      rfl
    · rw [State.lane_orderLane row (by rw [hset]; exact h), hset]
      rfl
end

end Sys2Proof.Machine
end

section
/-!
PROOFS. The group point moved and written to the riding members (R67, R86, R88, R89), and with it the two expiries of a step
group (O39; R81, R86 to R90).
-/

namespace Sys2Proof.Machine

/-! ## Riding members (R82) -/

theorem State.mem_riders {g : Fin 2} {l : Fin 4} {s : State} :
    l ∈ s.riders g ↔ l ∈ s.members g ∧ (s.lane l).state.riding = true := List.mem_filter

theorem State.riders_nodup (s : State) (g : Fin 2) : (s.riders g).Nodup := ((indices_nodup 4).filter _).filter _

theorem LaneState.riding_iff {st : LaneState} : st.riding = true ↔ st = .ahead ∨ st = .astern ∨ st = .rampdown := by
  cases st <;> simp [LaneState.riding]

theorem LaneState.ordered_of_riding {st : LaneState} (h : st.riding = true) : st.ordered = true := by
  rcases LaneState.riding_iff.mp h with rfl | rfl | rfl <;> rfl

theorem State.ordered_of_rider {g : Fin 2} {l : Fin 4} {s : State} (h : l ∈ s.riders g) :
    (s.lane l).state.ordered = true := LaneState.ordered_of_riding (State.mem_riders.mp h).2

/-! ## A setpoint written to several lanes -/

/-- From `s` to `t` the listed lanes are written the setpoint `v`; what `Cuts` says, and no group record changes. -/
structure Written (ls : List (Fin 4)) (v : Nat) (s t : State) : Prop extends Cuts ls.length s t where
  groups : t.groups = s.groups
  others : ∀ i, i ∉ ls → t.lane i = s.lane i
  listed : ∀ i ∈ ls, ∀ row, s.lanes.rows.get i = some row → t.lane i = (s.lane i).written row v s.now

theorem Written.nil (v : Nat) (s : State) : Written [] v s s := ⟨.refl s, rfl, fun _ _ => rfl, nofun⟩

/-- One lane written, and then the others. -/
theorem Written.cons {l : Fin 4} {ls : List (Fin 4)} {v : Nat} {s t u : State} (hl : l ∉ ls) (h : LaneOnly l 1 s t)
    (hlane : ∀ row, s.lanes.rows.get l = some row → t.lane l = (s.lane l).written row v s.now) (g : Written ls v t u) :
    Written (l :: ls) v s u where
  toCuts := (h.toCuts.trans g.toCuts).mono (by rw [List.length_cons, Nat.add_comm])
  groups := g.groups.trans h.groups
  others i hi := by
    obtain ⟨hne, hrest⟩ := List.ne_and_not_mem_of_not_mem_cons hi
    rw [g.others i hrest, h.others i hne]
  listed i hi row hrow := by
    by_cases he : i = l
    · subst he
      rw [g.others i hl, hlane row hrow]
    · have hrest := (List.mem_cons.mp hi).resolve_left he
      rw [g.listed i hrest row (by rw [h.laneRows, hrow]), h.others i he, h.now]

theorem Written.writeSetpoints {ls : List (Fin 4)} (v : Nat) {s : State} (hnodup : ls.Nodup)
    (h : ∀ l ∈ ls, (s.lane l).state.ordered = true) : Written ls v s (s.writeSetpoints ls v) := by
  induction ls generalizing s with
  | nil => exact .nil v s
  | cons l ls ih =>
    obtain ⟨hl, hnodup⟩ := List.nodup_cons.mp hnodup
    obtain ⟨hfirst, hrest⟩ := List.forall_mem_cons.mp h
    have step : ∀ t, LaneOnly l 1 s t →
        (∀ row, s.lanes.rows.get l = some row → t.lane l = (s.lane l).written row v s.now) →
        Written (l :: ls) v s (t.writeSetpoints ls v) := fun t honly hlane =>
      .cons hl honly hlane (ih hnodup fun i hi => by
        rw [honly.others i fun he => hl (he ▸ hi)]
        exact hrest i hi)
    have hwalk : s.writeSetpoints (l :: ls) v = State.writeSetpoints ls v
        (match s.lanes.rows.get l with
          | some row => s.writeSetpoint l row v
          | none => s) := rfl
    rw [hwalk]
    split
    · next row hrow =>
      refine step _ (.writeSetpoint row v s) fun row' hrow' => ?_
      obtain rfl := Option.some.inj (hrow.symm.trans hrow')
      exact State.lane_writeSetpoint hfirst
    · next hnone => exact step s (.stay 1 s) fun row hrow => nomatch hnone.symm.trans hrow

theorem Written.setpoint {ls : List (Fin 4)} {v : Nat} {s t : State} (h : Written ls v s t) {l : Fin 4} {row : LaneRow}
    (hl : l ∈ ls) (hrow : s.lanes.rows.get l = some row) : (t.lane l).setpoint = v := by
  rw [h.listed l hl row hrow, LaneRec.written_setpoint]

theorem State.row_of_rider {g : Fin 2} {l : Fin 4} {s : State} (h : l ∈ s.riders g) :
    ∃ row, s.lanes.rows.get l = some row ∧ row.home = some g :=
  (State.mem_members.mp (State.mem_riders.mp h).1).2

/-! ## The group point moved -/

/-- A group's record with another point. -/
def GroupRec.withPoint (v : Nat) (r : GroupRec) : GroupRec := { r with point := v }

theorem State.putGroup_putGroup (g : Fin 2) (r r' : GroupRec) (s : State) :
    (s.putGroup g r).putGroup g r' = s.putGroup g r' := by
  unfold State.putGroup
  rw [Tab.set_set]

theorem State.group_putGroup (g : Fin 2) (r : GroupRec) (s : State) : (s.putGroup g r).groups.recs.get g = r :=
  Tab.get_set_self _ _ _

section
variable {g : Fin 2} {v : Nat} {r : GroupRec} {s : State}

theorem State.movePoint_of_eq (h : v = r.point) : (s.putGroup g r).movePoint g v = s.putGroup g r :=
  if_pos (by rw [State.group_putGroup, h])

theorem Written.movePoint (h : v ≠ r.point) :
    Written (s.riders g) v (s.putGroup g (r.withPoint v)) ((s.putGroup g r).movePoint g v) := by
  have hmoves : (s.putGroup g r).movePoint g v = (s.putGroup g (r.withPoint v)).writeSetpoints (s.riders g) v := by
    refine (if_neg (by rwa [State.group_putGroup])).trans ?_
    rw [State.putGroup_putGroup, State.group_putGroup]
    rfl
  rw [hmoves]
  exact .writeSetpoints v (s.riders_nodup g) fun l hl => State.ordered_of_rider (s := s) hl

theorem State.groups_movePoint :
    ((s.putGroup g r).movePoint g v).groups = (s.putGroup g (r.withPoint v)).groups := by
  by_cases h : v = r.point
  · rw [State.movePoint_of_eq h, h]
    rfl
  · exact (Written.movePoint h).groups

theorem State.lane_movePoint_other {l : Fin 4} (h : l ∉ s.riders g) :
    ((s.putGroup g r).movePoint g v).lane l = s.lane l := by
  by_cases hv : v = r.point
  · rw [State.movePoint_of_eq hv]
    rfl
  · exact (Written.movePoint hv).others l h

theorem State.setpoint_movePoint {l : Fin 4} (hv : v ≠ r.point) (h : l ∈ s.riders g) :
    (((s.putGroup g r).movePoint g v).lane l).setpoint = v := by
  obtain ⟨row, hrow, -⟩ := State.row_of_rider h
  exact (Written.movePoint hv).setpoint h hrow

/-- An event that moves a group point, as it ends. -/
theorem answers_of_movePoint {c : Instr} {s0 : State} (hexec : exec c s0 = .next ((s.putGroup g r).movePoint g v).flush) :
    Answers (exec c s0) fun u =>
      u.now = s.now ∧ u.lessDrive = s.lessDrive ∧ FlagsKept s u [] ∧ u.lanes.ceils = s.lanes.ceils
      ∧ u.groups = { s.groups with recs := s.groups.recs.set g (r.withPoint v) }
      ∧ (∀ l, l ∉ s.riders g → (u.lane l).core = (s.lane l).core)
      ∧ (v ≠ r.point → ∀ l ∈ s.riders g, (u.lane l).setpoint = v)
      ∧ (v = r.point → ∀ l, (u.lane l).core = (s.lane l).core) := by
  have hcuts := (Cuts.putGroup g r s).trans (.movePoint g v _)
  have hgroups := State.groups_movePoint (g := g) (v := v) (r := r) (s := s)
  have hother := fun l => State.lane_movePoint_other (l := l) (g := g) (v := v) (r := r) (s := s)
  have hwritten := fun l => State.setpoint_movePoint (l := l) (g := g) (v := v) (r := r) (s := s)
  have hstays := fun h : v = r.point => State.movePoint_of_eq (g := g) (s := s) h
  generalize (s.putGroup g r).movePoint g v = moved at hexec hcuts hgroups hother hwritten hstays
  have hflush := Notified.flush moved
  have hquiet := State.quiet_flush moved
  have hcore := State.lane_core_of_quiet hquiet
  refine ⟨_, hexec, hflush.now.trans hcuts.now, (State.lessDrive_congr hquiet).trans hcuts.lessDrive,
    fun e he hes => (hflush.flags e he hes).trans (hcuts.flags e he hes),
    (congrArg (fun u => u.lanes.ceils) hquiet).trans hcuts.ceils, (congrArg (fun u => u.groups) hquiet).trans hgroups,
    fun l hl => ?other, fun hv l hl => ?written, fun hv l => ?stays⟩
  case other => rw [hcore, hother l hl]
  case written => exact (congrArg (fun x : LaneRec => x.setpoint) (hcore l)).trans (hwritten l hv hl)
  case stays =>
    rw [hcore, hstays hv]
    rfl
end

/-! ## The ramp timer of a group (R81, R86 to R88) -/

theorem stepToward_of_lt {up down goal v : Nat} (h : v < goal) : stepToward up down goal v = min goal (v + up) := by
  rw [stepToward, if_pos h, Nat.min_comm]

theorem stepToward_of_le {up down goal v : Nat} (h : goal ≤ v) : stepToward up down goal v = max goal (v - down) := by
  rw [stepToward, if_neg (Nat.not_lt.mpr h)]
  split
  · exact Nat.max_comm _ _
  · omega

section
variable {g : Fin 2} {row : GroupRow} {e : Nat} {s : State}

/-- A group's record as an expiry of its ramp timer leaves it, but for the point and the hold timer (R81). -/
def GroupRec.ticked (r : GroupRec) (row : GroupRow) (e : Nat) : GroupRec :=
  { r with rampTimer := some (e + 100), tolerance := row.tolerance }

/-- The hold timer stopped with it. -/
def GroupRec.unheld (r : GroupRec) : GroupRec := { r with holdStart := none }

/-- The goal of the group point in RUNNING (R86). -/
def State.groupGoal (s : State) (g : Fin 2) : Nat := minOpt (s.groups.recs.get g).targetSpeed (s.leastCeiling g)

/-- A member lags by more than a tolerance (R86). -/
def State.lagsBy (s : State) (g : Fin 2) (tolerance : Nat) : Prop :=
  ∃ l ∈ s.members g, (tolerance : Int) < ((s.groups.recs.get g).point : Int) - (((s.lane l).speed.getD 0 : Nat) : Int)

/-- The state at an expiry of the ramp timer, the point still as it was. -/
def State.ticked (g : Fin 2) (row : GroupRow) (e : Nat) (s : State) : State :=
  s.putGroup g ((s.groups.recs.get g).ticked row e)

variable (hrow : s.groups.rows.get g = some row) (htimer : (s.groups.recs.get g).rampTimer = some e) (hdue : e ≤ s.now)
include hrow htimer hdue

theorem State.groupRamp_of_running (hphase : s.phase g = .running) : s.groupRamp g = (s.ticked g row e).runGroup g row := by
  unfold State.groupRamp
  dsimp only
  rw [hrow, htimer]
  dsimp only
  rw [if_pos hdue, hphase]
  rfl

theorem State.groupRamp_of_gathering (hphase : s.phase g = .gathering) : s.groupRamp g = (s.ticked g row e).gatherGroup g := by
  unfold State.groupRamp
  dsimp only
  rw [hrow, htimer]
  dsimp only
  rw [if_pos hdue, hphase]
  rfl
end

section
variable {g : Fin 2} {row : GroupRow} {e : Nat} {s : State}

theorem State.any_late_iff : ((s.ticked g row e).members g).any
      (fun l => decide ((row.tolerance : Int) < (s.ticked g row e).lag g l)) = true ↔ s.lagsBy g row.tolerance := by
  rw [List.any_eq_true]
  refine exists_congr fun l => and_congr Iff.rfl ?_
  rw [decide_eq_true_eq, State.lag, State.ticked, State.group_putGroup]
  rfl

theorem State.runGroup_ticked : (s.ticked g row e).runGroup g row =
    if (s.groups.recs.get g).point < s.groupGoal g ∧ ((s.ticked g row e).members g).any
        (fun l => decide ((row.tolerance : Int) < (s.ticked g row e).lag g l)) = true then
      s.putGroup g { (s.groups.recs.get g).ticked row e with
        holdStart := some ((s.groups.recs.get g).holdStart.getD s.now) }
    else (s.putGroup g ((s.groups.recs.get g).ticked row e).unheld).movePoint g
      (stepToward (s.leastUp g) (s.leastDown g) (s.groupGoal g) (s.groups.recs.get g).point) := by
  have hrec : (s.ticked g row e).groups.recs.get g = (s.groups.recs.get g).ticked row e := State.group_putGroup _ _ _
  unfold State.runGroup
  dsimp only
  rw [hrec, State.ticked, State.putGroup_putGroup, State.putGroup_putGroup]
  rfl

/-- R86: a rise is held while a member lags. -/
theorem State.runGroup_of_late (hrise : (s.groups.recs.get g).point < s.groupGoal g) (hlate : s.lagsBy g row.tolerance) :
    (s.ticked g row e).runGroup g row = s.putGroup g { (s.groups.recs.get g).ticked row e with
      holdStart := some ((s.groups.recs.get g).holdStart.getD s.now) } := by
  rw [State.runGroup_ticked, if_pos ⟨hrise, State.any_late_iff.mpr hlate⟩]

theorem State.runGroup_of_moving (h : (s.groups.recs.get g).point < s.groupGoal g → ¬ s.lagsBy g row.tolerance) :
    (s.ticked g row e).runGroup g row = (s.putGroup g ((s.groups.recs.get g).ticked row e).unheld).movePoint g
      (stepToward (s.leastUp g) (s.leastDown g) (s.groupGoal g) (s.groups.recs.get g).point) := by
  rw [State.runGroup_ticked, if_neg fun ⟨hrise, hlate⟩ => h hrise (State.any_late_iff.mp hlate)]

/-- R88. -/
theorem State.gatherGroup_ticked : (s.ticked g row e).gatherGroup g =
    if s.groupIdle g < (s.groups.recs.get g).point then
      (s.putGroup g ((s.groups.recs.get g).ticked row e).unheld).movePoint g
        (max ((s.groups.recs.get g).point - s.leastDown g) (s.groupIdle g))
    else s.putGroup g ((s.groups.recs.get g).ticked row e).unheld := by
  have hrec : (s.ticked g row e).groups.recs.get g = (s.groups.recs.get g).ticked row e := State.group_putGroup _ _ _
  unfold State.gatherGroup
  dsimp only
  rw [hrec, State.ticked, State.putGroup_putGroup]
  rfl

/-! ## The hold timer of a group (R87) -/

theorem State.groupHold_of_due {since : Nat} (hrow : s.groups.rows.get g = some row)
    (hsince : (s.groups.recs.get g).holdStart = some since) (hdue : since + row.holdLimit ≤ s.now) :
    s.groupHold g = s.expireHold g := by
  unfold State.groupHold
  rw [hrow, hsince]
  exact if_pos (decide_eq_true hdue)
end

end Sys2Proof.Machine

open Sys2Proof Sys2Proof.Machine

/-- Settles O39: an expiry of the ramp timer moves the point by `State.movePoint` or holds it; the members that lag at the end
of a hold leave by `Dismisses.expireHold`. -/
theorem theGroupPointMovesAndLaggardsLeave : Obligations.TheGroupPointMovesAndLaggardsLeave := by
  unfold Obligations.TheGroupPointMovesAndLaggardsLeave
  refine ⟨fun t g row s e hheld hrow htimer hdue hmembers => ?ramp,
    fun t g row s since hheld hrow hsince hdue => ?hold⟩
  case ramp =>
    intro s1 r goal late moved
    have hexec : exec (.groupRampExpiry t g) s = .next (s1.groupRamp g).flush := event_of_awake hheld
    have hgoal : s1.groupGoal g = goal := by
      show minOpt r.targetSpeed (s.leastCeiling g) = goal
      simp only [goal]
      cases s.leastCeiling g <;> rfl
    have hruns := fun h : s.phase g = .running => State.groupRamp_of_running (s := s1) hrow htimer hdue h
    have hgathers := fun h : s.phase g = .gathering => State.groupRamp_of_gathering (s := s1) hrow htimer hdue h
    have moves : ∀ v, s1.groupRamp g = (s1.putGroup g (r.ticked row e).unheld).movePoint g v → moved v := fun v hramp =>
      answers_of_movePoint (hramp ▸ hexec)
    refine ⟨fun hphase hrise hlate => ?held, fun hphase hrise hlate => moves _ ?rises, fun hphase hfall => moves _ ?falls,
      fun hphase hidle => moves _ ?gathers, fun hphase hidle => moves _ ?gathered⟩
    case held =>
      rw [hruns hphase, State.runGroup_of_late (s := s1) (hgoal ▸ hrise) hlate] at hexec
      exact becomes_of_silent_effect hexec (.of_eq rfl rfl rfl rfl) rfl
    case rises =>
      rw [hruns hphase, State.runGroup_of_moving (s := s1) fun _ => hlate, hgoal]
      exact congrArg (fun v => State.movePoint g v _) (stepToward_of_lt hrise)
    case falls =>
      rw [hruns hphase, State.runGroup_of_moving (s := s1) fun h => absurd (hgoal ▸ h) (Nat.not_lt.mpr hfall), hgoal]
      exact congrArg (fun v => State.movePoint g v _) (stepToward_of_le hfall)
    case gathers =>
      rw [hgathers hphase, State.gatherGroup_ticked, Nat.max_comm]
      exact if_pos hidle
    case gathered =>
      rw [hgathers hphase, State.gatherGroup_ticked]
      exact (if_neg (Nat.not_lt.mpr hidle)).trans (State.movePoint_of_eq rfl).symm
  case hold =>
    intro s1 r late
    have hexec : exec (.groupHoldExpiry t g) s = .next (s1.groupHold g).flush := event_of_awake hheld
    rw [State.groupHold_of_due (s := s1) hrow hsince hdue] at hexec
    have hlate : ∀ l, l ∈ s1.lateMembers g ↔ late l := fun _ => State.mem_lateMembers
    have hsome : (∃ l, late l) → s1.lateMembers g ≠ [] := fun ⟨l, hl⟩ => List.ne_nil_of_mem ((hlate l).mpr hl)
    have hsteers := Steers.expireHold g s1
    have hflush := Notified.flush (s1.expireHold g)
    have hquiet := State.quiet_flush (s1.expireHold g)
    have hlane := State.lane_core_of_quiet hquiet
    have hgroups : (s1.expireHold g).flush.groups = (s1.expireHold g).groups := congrArg (fun u => u.groups) hquiet
    refine ⟨_, hexec, hflush.now.trans hsteers.now, (State.lessDrive_congr hquiet).trans hsteers.lessDrive,
      fun e he hes => (hflush.flags e he List.not_mem_nil).trans (hsteers.flags e he hes), fun p hp => ?queues,
      (congrArg (fun u => u.lanes.ceils) hquiet).trans State.ceils_expireHold, ?steering, fun l hl => ?late,
      fun l hl => ?punctual, fun hl => ?raised, ?record⟩
    case queues => rw [hflush.port p hp, State.port_expireHold hp]
    case steering =>
      have hsteering : { (s1.expireHold g).flush.steering with summaryAt := 0 } = { s.steering with summaryAt := 0 } :=
        (congrArg (fun x => x.steering) hquiet).trans
          (congrArg (fun x : Steering => { x with summaryAt := 0 }) (State.steering_expireHold (s := s1)))
      exact congrArg (fun x : Steering => { x with summaryAt := (s1.expireHold g).flush.steering.summaryAt }) hsteering
    case late =>
      exact (hlane l).trans (congrArg LaneRec.core ((State.lane_expireHold l).trans (if_pos ((hlate l).mpr hl))))
    case punctual =>
      exact (hlane l).trans (congrArg LaneRec.core ((State.lane_expireHold l).trans (if_neg (mt (hlate l).mp hl))))
    case raised =>
      rw [hflush.flags .outOfStep Event.outOfStep_ne_portCongested List.not_mem_nil]
      exact State.outOfStep_expireHold (hsome hl)
    case record =>
      rw [hgroups, State.group_expireHold]
      refine ⟨?_, ?_, ?_, ?_, fun hl hall => ?_⟩
      case refine_5 => rw [if_pos ⟨hsome hl, fun l hm => (hlate l).mpr (hall l hm)⟩]
      all_goals split <;> rfl
end

section
/-!
PROOFS. A lane's target changed: what the change writes, and the lane's record after it (R58 to R63, R72).
-/

namespace Sys2Proof.Machine

/-! ## Records of a lane whose target changes -/

/-- With another target. -/
def LaneRec.aimedAt (d : Dir) (v : Nat) (r : LaneRec) : LaneRec := { r with targetDir := d, targetSpeed := v }

/-- With another engagement pending. -/
def LaneRec.queued (x : Option Pending) (r : LaneRec) : LaneRec := { r with pending := x }

/-- With no engagement pending and its dwell stopped. -/
def LaneRec.unqueued (r : LaneRec) : LaneRec := { r with pending := none, dwellTimer := none }

/-- With an engagement pending until its dwell is over (R60). -/
def LaneRec.waiting (p : Pending) (due : Nat) (r : LaneRec) : LaneRec := { r with pending := some p, dwellTimer := some due }

/-- On entry to ENGAGING, before its order (R60). -/
def LaneRec.engagingTo (row : LaneRow) (d : Dir) (kick : Option Nat) (now : Nat) (r : LaneRec) : LaneRec :=
  { r with
    state := .engaging, gear := d, pending := none, setpoint := row.idle, kickMark := kick,
    clutchTimer := some (now + row.clutchTimeout), dwellTimer := none }

/-- In RAMPDOWN (R62). -/
def LaneRec.ramping (r : LaneRec) : LaneRec := { r with state := .rampdown, kickTimer := none }

/-- The engagement that a change leaves pending while the lane comes to neutral (R61 to R63). -/
def pendingAfter (d : Dir) (v : Nat) : Option Pending :=
  if d = .neutral then none else some { dir := d, speed := v, kick := none }

section
variable {l : Fin 4} {row : LaneRow} {d : Dir} {v : Nat} {kick : Option Nat} {s : State}

/-! ## A change, state by state (R60 to R63) -/

theorem State.engage_eq :
    s.engage l row d kick = (s.putLane l ((s.lane l).engagingTo row d kick s.now)).orderLane l row := rfl

theorem State.engageOrWait_eq : s.engageOrWait l row d v kick =
    if (s.lane l).mayEngageAt row d s.now ≤ s.now then s.engage l row d kick
    else s.putLane l ((s.lane l).waiting { dir := d, speed := v, kick := kick } ((s.lane l).mayEngageAt row d s.now)) := rfl

theorem State.applyChange_of_neutral (h : (s.lane l).state = .neutral) : s.applyChange l row d v kick =
    if d = .neutral then s.putLane l ((s.lane l).aimedAt d v).unqueued
    else (s.putLane l ((s.lane l).aimedAt d v).unqueued).engageOrWait l row d v kick := by
  unfold State.applyChange
  generalize s.lane l = r at h ⊢
  cases r
  cases h
  rfl

theorem State.applyChange_of_engaging (h : (s.lane l).state = .engaging) : s.applyChange l row d v kick =
    if d = (s.lane l).gear then s.putLane l { (s.lane l).aimedAt d v with kickMark := kick }
    else (s.putLane l { ((s.lane l).aimedAt d v).queued (pendingAfter d v) with lastEngaged := some (s.lane l).gear }).declutch
      l row := by
  unfold State.applyChange
  generalize s.lane l = r at h ⊢
  cases r
  cases h
  rfl

theorem State.applyChange_of_engaged (h : (s.lane l).state = .ahead ∨ (s.lane l).state = .astern) :
    s.applyChange l row d v kick =
    if d = (s.lane l).gear then
      s.putLane l { (s.lane l).aimedAt d v with kickTimer := kick.map (fun k => s.now + 1000 * k) }
    else (s.putLane l (((s.lane l).aimedAt d v).queued (pendingAfter d v)).ramping).settleRampdown l row := by
  unfold State.applyChange
  generalize s.lane l = r at h ⊢
  cases r
  rcases h with h | h
  all_goals
    cases h
    rfl

theorem State.applyChange_of_rampdown (h : (s.lane l).state = .rampdown) : s.applyChange l row d v kick =
    if d = (s.lane l).gear then
      s.putLane l { ((s.lane l).aimedAt d v).queued none with state := .engaged (s.lane l).gear }
    else s.putLane l (((s.lane l).aimedAt d v).queued (pendingAfter d v)) := by
  unfold State.applyChange
  generalize s.lane l = r at h ⊢
  cases r
  cases h
  rfl

theorem State.applyChange_of_declutch (h : (s.lane l).state = .declutch) : s.applyChange l row d v kick =
    s.putLane l (((s.lane l).aimedAt d v).queued (pendingAfter d v)) := by
  unfold State.applyChange
  generalize s.lane l = r at h ⊢
  cases r
  cases h
  rfl

theorem State.applyChange_of_loadable (h : (s.lane l).state.loadable = true) : s.applyChange l row d v kick = s := by
  unfold State.applyChange
  dsimp only
  rcases LaneState.loadable_iff.mp h with h | h | h <;> rw [h]

/-- The state of a lane, as `applyChange` tells the states apart. -/
theorem LaneState.change_cases (st : LaneState) : st = .neutral ∨ st = .engaging ∨ (st = .ahead ∨ st = .astern)
    ∨ st = .rampdown ∨ st = .declutch ∨ st.loadable = true := by
  cases st <;> decide

/-! ## The record after a change, state by state (the table of section 4.6) -/

section
variable {r : LaneRec} {now : Nat}

theorem LaneRec.changed_of_neutral (h : r.state = .neutral) : r.changed row d v kick now =
    if d = .neutral then (r.aimedAt d v).unqueued else (r.aimedAt d v).unqueued.asked row d v kick now := by
  cases r
  cases h
  rfl

theorem LaneRec.changed_of_engaging (h : r.state = .engaging) : r.changed row d v kick now =
    if d = r.gear then { r.aimedAt d v with kickMark := kick }
    else { (r.aimedAt d v).queued (pendingAfter d v) with lastEngaged := some r.gear }.declutched row now := by
  cases r
  cases h
  rfl

theorem LaneRec.changed_of_engaged (h : r.state = .ahead ∨ r.state = .astern) : r.changed row d v kick now =
    if d = r.gear then { r.aimedAt d v with kickTimer := kick.map (fun k => now + 1000 * k) }
    else if r.setpoint = row.idle then (((r.aimedAt d v).queued (pendingAfter d v)).ramping).declutched row now
    else ((r.aimedAt d v).queued (pendingAfter d v)).ramping := by
  cases r
  rcases h with h | h
  all_goals
    cases h
    rfl

theorem LaneRec.changed_of_rampdown (h : r.state = .rampdown) : r.changed row d v kick now =
    if d = r.gear then { (r.aimedAt d v).queued none with state := .engaged r.gear }
    else (r.aimedAt d v).queued (pendingAfter d v) := by
  cases r
  cases h
  rfl

theorem LaneRec.changed_of_declutch (h : r.state = .declutch) : r.changed row d v kick now =
    (r.aimedAt d v).queued (pendingAfter d v) := by
  cases r
  cases h
  rfl

theorem LaneRec.changed_of_loadable (h : r.state.loadable = true) : r.changed row d v kick now = r := by
  unfold LaneRec.changed
  rcases LaneState.loadable_iff.mp h with h | h | h <;> rw [h]
end

/-! ## What a change writes -/

theorem LaneOnly.putSame {r : LaneRec} (h : r.state = (s.lane l).state) : LaneOnly l 0 s (s.putLane l r) :=
  .putLane (by rw [h]; exact s.mayEnter_same)

theorem LaneOnly.putActive {r : LaneRec} (h : (s.lane l).state.active = true) : LaneOnly l 0 s (s.putLane l r) :=
  .putLane (State.mayEnter_of_active h)

theorem LaneOnly.last {t : State} (h : LaneOnly l 0 s t) : LaneOnly l 1 s t := h.mono (Nat.zero_le 1)

theorem LaneOnly.engageOrWait (h : s.Unhindered l) : LaneOnly l 1 s (s.engageOrWait l row d v kick) := by
  have hput : LaneOnly l 0 s (s.putLane l ((s.lane l).engagingTo row d kick s.now)) := .putLane fun _ => .inr h
  rw [State.engageOrWait_eq, State.engage_eq]
  refine .cond (hput.trans (.orderLane row _)) (.last (.putSame ?_))
  rfl

theorem LaneOnly.settleRampdown : LaneOnly l 1 s (s.settleRampdown l row) := by
  unfold State.settleRampdown
  split
  · next h => exact .declutch row (by rw [h.1]; rfl)
  · exact .stay 1 s

/-- A change by which no release is abandoned: it is toward NEUTRAL, or no release is in progress under the boat. -/
theorem LaneOnly.applyChange (h : d = .neutral ∨ s.Unhindered l) : LaneOnly l 1 s (s.applyChange l row d v kick) := by
  rcases (s.lane l).state.change_cases with hst | hst | hst | hst | hst | hst
  · have hput : LaneOnly l 0 s (s.putLane l ((s.lane l).aimedAt d v).unqueued) := .putSame rfl
    rw [State.applyChange_of_neutral hst]
    split
    · exact hput.last
    · next hd => exact hput.trans (.engageOrWait (hput.unhindered (h.resolve_left hd)))
  · have hactive : (s.lane l).state.active = true := by rw [hst]; rfl
    rw [State.applyChange_of_engaging hst]
    refine .cond (.last (.putActive hactive)) (LaneOnly.trans (.putActive hactive) (.declutch row ?_))
    rw [State.lane_putLane_self]
    exact hactive
  · have hactive : (s.lane l).state.active = true := by rcases hst with hst | hst <;> rw [hst] <;> rfl
    rw [State.applyChange_of_engaged hst]
    exact .cond (.last (.putActive hactive)) (LaneOnly.trans (.putActive hactive) .settleRampdown)
  · have hactive : (s.lane l).state.active = true := by rw [hst]; rfl
    rw [State.applyChange_of_rampdown hst]
    exact .cond (.last (.putActive hactive)) (.last (.putActive hactive))
  · rw [State.applyChange_of_declutch hst]
    exact .last (.putSame rfl)
  · rw [State.applyChange_of_loadable hst]
    exact .stay 1 s

/-! ## A change leaves that record -/

theorem State.now_putLane (r : LaneRec) (s : State) : (s.putLane l r).now = s.now := (Driven.putLane l r s).now

theorem LaneRec.asked_eq (r : LaneRec) (now : Nat) : r.asked row d v kick now =
    if r.mayEngageAt row d now ≤ now then (r.engagingTo row d kick now).refreshed row now
    else r.waiting { dir := d, speed := v, kick := kick } (r.mayEngageAt row d now) := rfl

theorem State.lane_engageOrWait : (s.engageOrWait l row d v kick).lane l = (s.lane l).asked row d v kick s.now := by
  rw [State.engageOrWait_eq, LaneRec.asked_eq, State.engage_eq]
  split
  · rw [State.lane_orderLane row (by rw [State.lane_putLane_self]; rfl), State.lane_putLane_self, State.now_putLane]
  · exact State.lane_putLane_self _ s

theorem State.lane_settleRampdown (h : (s.lane l).state = .rampdown) : (s.settleRampdown l row).lane l =
    if (s.lane l).setpoint = row.idle then (s.lane l).declutched row s.now else s.lane l := by
  unfold State.settleRampdown
  simp only [h, true_and]
  split
  · exact State.lane_declutch row
  · rfl

/-- R60 to R63: the record is that of the table of section 4.6. -/
theorem State.lane_applyChange :
    (s.applyChange l row d v kick).lane l = (s.lane l).changed row d v kick s.now := by
  rcases (s.lane l).state.change_cases with hst | hst | hst | hst | hst | hst
  · rw [State.applyChange_of_neutral hst, LaneRec.changed_of_neutral hst]
    split
    · exact State.lane_putLane_self _ s
    · rw [State.lane_engageOrWait, State.lane_putLane_self, State.now_putLane]
  · rw [State.applyChange_of_engaging hst, LaneRec.changed_of_engaging hst]
    split
    · exact State.lane_putLane_self _ s
    · rw [State.lane_declutch, State.lane_putLane_self, State.now_putLane]
  · rw [State.applyChange_of_engaged hst, LaneRec.changed_of_engaged hst]
    split
    · exact State.lane_putLane_self _ s
    · rw [State.lane_settleRampdown (by rw [State.lane_putLane_self]; rfl), State.lane_putLane_self, State.now_putLane]
      rfl
  · rw [State.applyChange_of_rampdown hst, LaneRec.changed_of_rampdown hst]
    split
    · exact State.lane_putLane_self _ s
    · exact State.lane_putLane_self _ s
  · rw [State.applyChange_of_declutch hst, LaneRec.changed_of_declutch hst]
    exact State.lane_putLane_self _ s
  · rw [State.applyChange_of_loadable hst, LaneRec.changed_of_loadable hst]
end

end Sys2Proof.Machine
end

section
/-!
PROOFS. A step group gathered: the lanes that join it (R84, R72), those that leave it (R90), and the point that it settles
(R85).
-/

namespace Sys2Proof.Machine

/-! ## A lane as it joins (R84) -/

/-- A lane in step at a target, without crash flag or kick. -/
structure LaneRec.Joined (d : Dir) (v : Nat) (r : LaneRec) : Prop where
  inStep      : r.inStep = true
  crash       : r.crash = false
  kickTimer   : r.kickTimer = none
  kickMark    : r.kickMark = none
  targetDir   : r.targetDir = d
  targetSpeed : r.targetSpeed = v

section
variable {r : LaneRec} {row : LaneRow} {d d' : Dir} {v v' now : Nat}

/-- A record with the same marks and target. -/
theorem LaneRec.Joined.declutched (h : r.Joined d v) : (r.declutched row now).Joined d v :=
  ⟨h.inStep, h.crash, rfl, rfl, h.targetDir, h.targetSpeed⟩

theorem LaneRec.Joined.written (h : r.Joined d v) : (r.written row v' now).Joined d v := by
  unfold LaneRec.written
  split
  · exact h
  · split
    · exact h.declutched
    · exact ⟨h.inStep, h.crash, h.kickTimer, h.kickMark, h.targetDir, h.targetSpeed⟩

theorem LaneRec.Joined.asked (h : r.Joined d v) : (r.asked row d' v' none now).Joined d v := by
  rw [LaneRec.asked_eq]
  split
  · exact ⟨h.inStep, h.crash, h.kickTimer, rfl, h.targetDir, h.targetSpeed⟩
  · exact ⟨h.inStep, h.crash, h.kickTimer, h.kickMark, h.targetDir, h.targetSpeed⟩

theorem LaneRec.Joined.queued (h : r.Joined d v) (x : Option Pending) : (r.queued x).Joined d v :=
  ⟨h.inStep, h.crash, h.kickTimer, h.kickMark, h.targetDir, h.targetSpeed⟩

theorem LaneRec.Joined.ramping (h : r.Joined d v) : r.ramping.Joined d v :=
  ⟨h.inStep, h.crash, rfl, h.kickMark, h.targetDir, h.targetSpeed⟩

theorem LaneRec.Joined.unqueued (h : r.Joined d v) : r.unqueued.Joined d v :=
  ⟨h.inStep, h.crash, h.kickTimer, h.kickMark, h.targetDir, h.targetSpeed⟩

/-- A change of target that is no kick, in a state that a group can gather. -/
theorem LaneRec.Joined.changed (h : (r.aimedAt d v).Joined d v) (hordered : r.state.ordered = true) :
    (r.changed row d v none now).Joined d v := by
  rcases r.state.change_cases with hst | hst | hst | hst | hst | hst
  · rw [LaneRec.changed_of_neutral hst]
    split
    · exact h.unqueued
    · exact h.unqueued.asked
  · rw [LaneRec.changed_of_engaging hst]
    split
    · exact ⟨h.inStep, h.crash, h.kickTimer, rfl, h.targetDir, h.targetSpeed⟩
    · exact ⟨h.inStep, h.crash, rfl, rfl, h.targetDir, h.targetSpeed⟩
  · rw [LaneRec.changed_of_engaged hst]
    split
    · exact ⟨h.inStep, h.crash, rfl, h.kickMark, h.targetDir, h.targetSpeed⟩
    · split
      · exact (h.queued _).ramping.declutched
      · exact (h.queued _).ramping
  · rw [LaneRec.changed_of_rampdown hst]
    split
    · exact ⟨h.inStep, h.crash, h.kickTimer, h.kickMark, h.targetDir, h.targetSpeed⟩
    · exact h.queued _
  · rw [LaneRec.changed_of_declutch hst]
    exact h.queued _
  · rcases LaneState.loadable_iff.mp hst with hst | hst | hst <;> rw [hst] at hordered <;> nomatch hordered

/-- A lane's record as it joins, its target and its crash flag still as they were. -/
def LaneRec.joining (r : LaneRec) : LaneRec := { r.dropKick with inStep := true }

/-- With its crash flag clear. -/
def LaneRec.uncrashed (r : LaneRec) : LaneRec := { r with crash := false }

theorem LaneRec.joined_joining (hdir : r.targetDir = d) (hspeed : r.targetSpeed = v) : r.joining.uncrashed.Joined d v :=
  ⟨rfl, rfl, rfl, rfl, hdir, hspeed⟩

/-- A kick that was pending is an engagement without one (R70). -/
theorem LaneRec.joining_unkicked {p : Pending} (h : r.joining.pending = some p) : p.kick = none := by
  obtain ⟨q, -, rfl⟩ := Option.map_eq_some_iff.mp h
  rfl
end

section
variable {l : Fin 4} {row : LaneRow} {d : Dir} {v : Nat} {s : State}

/-- R72. -/
theorem State.clearCrash_eq : s.clearCrash l row =
    if (s.lane l).crash = true then
      match (s.lane l).state, (s.lane l).pending with
      | .neutral, some p => (s.setLane l (s.lane l).uncrashed).engageOrWait l row p.dir p.speed p.kick
      | _, _ => s.setLane l (s.lane l).uncrashed
    else s := by
  have hput : s.putLane l (s.lane l).uncrashed = s.setLane l (s.lane l).uncrashed := State.putLane_of_state rfl
  rw [← hput]
  rfl

theorem LaneOnly.clearCrash (h : (s.lane l).pending = none ∨ s.Unhindered l) :
    LaneOnly l 1 s (s.clearCrash l row) := by
  have hset := LaneOnly.setLane (l := l) (s.lane l).uncrashed s
  rw [State.clearCrash_eq]
  split
  · split
    · next p _ hpending =>
      exact hset.trans (.engageOrWait (hset.unhindered (h.resolve_left (by rw [hpending]; nofun))))
    · exact hset.last
  · exact .stay 1 s

theorem State.joined_clearCrash (h : (s.lane l).uncrashed.Joined d v)
    (hkick : ∀ p, (s.lane l).pending = some p → p.kick = none) : ((s.clearCrash l row).lane l).Joined d v := by
  have hset : (s.setLane l (s.lane l).uncrashed).lane l = (s.lane l).uncrashed := by
    rw [State.lane_setLane, if_pos rfl]
  rw [State.clearCrash_eq]
  split
  · split
    · next p _ hpending =>
      rw [State.lane_engageOrWait, hset, hkick p hpending]
      exact h.asked
    · rw [hset]
      exact h
  · next hcrash => exact ⟨h.inStep, Bool.not_eq_true _ ▸ hcrash, h.kickTimer, h.kickMark, h.targetDir, h.targetSpeed⟩

/-- A group target as normalised for a lane (R58, R84). -/
def LaneRow.share (row : LaneRow) (d : Dir) (v : Nat) : Dir × Nat := if d = .neutral then (.neutral, 0) else (d, row.bound d v)

theorem LaneRow.share_fst (row : LaneRow) (d : Dir) (v : Nat) : (row.share d v).1 = d := by
  unfold LaneRow.share
  split
  · next h => exact h.symm
  · rfl

theorem State.joinGroup_of_row (hrow : s.lanes.rows.get l = some row) : s.joinGroup d v l =
    if (s.lane l).targetDir = (row.share d v).1 ∧ (s.lane l).targetSpeed = (row.share d v).2 then
      (s.setLane l (s.lane l).joining).clearCrash l row
    else (s.setLane l (s.lane l).joining.uncrashed).applyChange l row (row.share d v).1 (row.share d v).2 none := by
  have hput : s.putLane l (s.lane l).joining = s.setLane l (s.lane l).joining := State.putLane_of_state rfl
  have hlane : (s.setLane l (s.lane l).joining).lane l = (s.lane l).joining := by rw [State.lane_setLane, if_pos rfl]
  have hclear : (s.setLane l (s.lane l).joining).putLane l (s.lane l).joining.uncrashed
      = s.setLane l (s.lane l).joining.uncrashed := by
    rw [State.putLane_of_state (by rw [hlane]; rfl), State.setLane_setLane]
  have hjoins : s.joinGroup d v l =
      if ((s.putLane l (s.lane l).joining).lane l).targetDir = (row.share d v).1
          ∧ ((s.putLane l (s.lane l).joining).lane l).targetSpeed = (row.share d v).2 then
        (s.putLane l (s.lane l).joining).clearCrash l row
      else ((s.putLane l (s.lane l).joining).putLane l
        ((s.putLane l (s.lane l).joining).lane l).uncrashed).applyChange l row (row.share d v).1 (row.share d v).2 none := by
    unfold State.joinGroup
    rw [hrow]
    rfl
  rw [hjoins, hput, hlane, hclear]
  rfl

/-- A lane that may join a group for a direction, by which no release is abandoned (R84, R124): it is ordered, and for NEUTRAL it
holds no engagement behind a target of NEUTRAL, for a direction no release is in progress under its boat. -/
structure State.MayJoin (d : Dir) (l : Fin 4) (s : State) : Prop where
  ordered : (s.lane l).state.ordered = true
  free    : (d = .neutral ∧ ((s.lane l).targetDir = .neutral → (s.lane l).pending = none)) ∨ s.Unhindered l

theorem LaneOnly.joinGroup (hrow : s.lanes.rows.get l = some row) (h : s.MayJoin d l) :
    LaneOnly l 1 s (s.joinGroup d v l) := by
  rw [State.joinGroup_of_row hrow]
  split
  · next htarget =>
    have hset := LaneOnly.setLane (l := l) (s.lane l).joining s
    refine hset.trans (.clearCrash (h.free.imp (fun ⟨hd, hpending⟩ => ?_) hset.unhindered))
    have hnone := hpending (htarget.1.trans ((row.share_fst d v).trans hd))
    rw [State.lane_setLane, if_pos rfl]
    exact congrArg (Option.map _) hnone
  · have hset := LaneOnly.setLane (l := l) (s.lane l).joining.uncrashed s
    exact hset.trans (.applyChange (h.free.imp (fun ⟨hd, _⟩ => (row.share_fst d v).trans hd) hset.unhindered))

theorem State.joined_joinGroup (hrow : s.lanes.rows.get l = some row) (h : s.MayJoin d l) :
    ((s.joinGroup d v l).lane l).Joined (row.share d v).1 (row.share d v).2 := by
  rw [State.joinGroup_of_row hrow]
  split
  · next htarget =>
    refine State.joined_clearCrash ?_ fun p hp => ?_
    · rw [State.lane_setLane, if_pos rfl]
      exact LaneRec.joined_joining htarget.1 htarget.2
    · rw [State.lane_setLane, if_pos rfl] at hp
      exact LaneRec.joining_unkicked hp
  · rw [State.lane_applyChange, State.lane_setLane, if_pos rfl]
    exact LaneRec.Joined.changed ⟨rfl, rfl, rfl, rfl, rfl, rfl⟩ h.ordered
end

/-! ## Lanes joining one after another -/

/-- From `s` to `t` the listed lanes join a group; what `Cuts` says, and no group record changes. -/
structure Gathered (ls : List (Fin 4)) (d : Dir) (v : Nat) (s t : State) : Prop extends Cuts ls.length s t where
  groups : t.groups = s.groups
  others : ∀ i, i ∉ ls → t.lane i = s.lane i
  joined : ∀ i ∈ ls, ∀ row, s.lanes.rows.get i = some row → (t.lane i).Joined (row.share d v).1 (row.share d v).2

/-- Another lane's operation leaves it to a lane to join. -/
theorem State.MayJoin.after {d : Dir} {i l : Fin 4} {n : Nat} {s t : State} (h : s.MayJoin d i) (g : LaneOnly l n s t)
    (hi : i ≠ l) : t.MayJoin d i := by
  refine ⟨?_, h.free.imp ?_ fun hs => hs.congr g.lessDrive⟩
  · rw [g.others i hi]
    exact h.ordered
  · rw [g.others i hi]
    exact id

theorem Gathered.forEach {ls : List (Fin 4)} {d : Dir} (v : Nat) {s : State} (hnodup : ls.Nodup)
    (h : ∀ l ∈ ls, (∃ row, s.lanes.rows.get l = some row) ∧ s.MayJoin d l) :
    Gathered ls d v s (forEach ls (State.joinGroup d v) s) := by
  induction ls generalizing s with
  | nil => exact ⟨.refl s, rfl, fun _ _ => rfl, nofun⟩
  | cons l ls ih =>
    obtain ⟨hl, hnodup⟩ := List.nodup_cons.mp hnodup
    obtain ⟨⟨⟨row, hrow⟩, hjoin⟩, hrest⟩ := List.forall_mem_cons.mp h
    have hone := LaneOnly.joinGroup (v := v) hrow hjoin
    have hjoined := State.joined_joinGroup (v := v) hrow hjoin
    have hothers := ih (s := s.joinGroup d v l) hnodup fun i hi => by
      obtain ⟨hloaded, hmay⟩ := hrest i hi
      exact ⟨by rwa [hone.laneRows], hmay.after hone fun he => hl (he ▸ hi)⟩
    exact {
      toCuts := (hone.toCuts.trans hothers.toCuts).mono (by rw [List.length_cons, Nat.add_comm])
      groups := hothers.groups.trans hone.groups
      others := fun i hi => by
        obtain ⟨hne, hmem⟩ := List.ne_and_not_mem_of_not_mem_cons hi
        exact (hothers.others i hmem).trans (hone.others i hne)
      joined := fun i hi row' hrow' => by
        by_cases he : i = l
        · subst he
          obtain rfl := Option.some.inj (hrow.symm.trans hrow')
          rw [← hothers.others i hl] at hjoined
          exact hjoined
        · exact hothers.joined i ((List.mem_cons.mp hi).resolve_left he) row' (by rw [hone.laneRows, hrow']) }

/-! ## Lanes leaving one after another (R90) -/

/-- From `s` to `t` the listed members leave a group; its record changes by its timers alone, and no other group's. -/
structure Left (g : Fin 2) (ls : List (Fin 4)) (s t : State) : Prop extends Cuts 0 s t where
  lane  : ∀ i, t.lane i = if i ∈ ls then { s.lane i with inStep := false } else s.lane i
  group : (t.groups.recs.get g).stopped = (s.groups.recs.get g).stopped
  other : ∀ i, i ≠ g → t.groups.recs.get i = s.groups.recs.get i

theorem Left.one {g : Fin 2} {l : Fin 4} {s : State} (h : l ∈ s.members g) : Left g [l] s (s.leaveGroup l) := by
  rw [State.leaveGroup_of_member h]
  have hset := LaneOnly.setLane (l := l) { s.lane l with inStep := false } s
  exact {
    toCuts := hset.toCuts.trans (.settleGroup g _)
    lane := fun i => by
      rw [State.lane, State.lanes_settleGroup]
      refine (State.lane_setLane l i _ s).trans ?_
      simp only [List.mem_singleton]
      split
      · next he => rw [he]
      · rfl
    group := by
      rw [State.groups_settleGroup, hset.groups]
      split <;> rfl
    other := fun i hi => by
      rw [State.groups_settleGroup, hset.groups, if_neg fun he => hi he.1] }

theorem Left.forEach {g : Fin 2} {ls : List (Fin 4)} {s : State} (hnodup : ls.Nodup) (h : ∀ l ∈ ls, l ∈ s.members g) :
    Left g ls s (forEach ls State.leaveGroup s) := by
  induction ls generalizing s with
  | nil => exact ⟨.refl s, fun _ => (if_neg List.not_mem_nil).symm, rfl, fun _ _ => rfl⟩
  | cons l ls ih =>
    obtain ⟨hl, hnodup⟩ := List.nodup_cons.mp hnodup
    obtain ⟨hmember, hrest⟩ := List.forall_mem_cons.mp h
    have hone := Left.one hmember
    have hothers := ih (s := s.leaveGroup l) hnodup fun i hi => by
      have hne : i ∉ [l] := fun he => hl (List.mem_singleton.mp he ▸ hi)
      obtain ⟨hstep, hrow⟩ := State.mem_members.mp (hrest i hi)
      rw [State.mem_members, hone.lane, if_neg hne, hone.laneRows]
      exact ⟨hstep, hrow⟩
    exact {
      toCuts := hone.toCuts.trans hothers.toCuts
      lane := fun i => by
        refine (hothers.lane i).trans ?_
        rw [hone.lane]
        by_cases hi : i ∈ ls
        · have hne : i ∉ [l] := fun he => hl (List.mem_singleton.mp he ▸ hi)
          rw [if_pos hi, if_neg hne, if_pos (List.mem_cons_of_mem _ hi)]
        · simp only [hi, if_false, List.mem_cons, List.not_mem_nil, or_false]
      group := hothers.group.trans hone.group
      other := fun i hi => (hothers.other i hi).trans (hone.other i hi) }

/-! ## The point settled (R85) -/

/-- A group's record with its timers as a settled point leaves them. -/
def GroupRec.settled (r : GroupRec) (point e : Nat) : GroupRec :=
  { r with point := point, holdStart := none, rampTimer := some e }

theorem State.settlePoint_of_empty {g : Fin 2} {s : State} (h : s.members g = []) :
    s.settlePoint g = s.putGroup g (s.groups.recs.get g).stopped := by
  unfold State.settlePoint
  exact if_pos (List.isEmpty_iff.mpr h)

/-- The point that the riding members share: the least of their setpoints, the idle speed where none rides. -/
def State.sharedPoint (s : State) (g : Fin 2) : Nat :=
  (leastOf ((s.riders g).map fun l => (s.lane l).setpoint)).getD (s.groupIdle g)

/-- When the ramp timer of a group with members expires: as it was to, or 100 ms from now. -/
def State.rampDue (s : State) (g : Fin 2) : Nat := (s.groups.recs.get g).rampTimer.getD (s.now + 100)

theorem State.settlePoint_of_members {g : Fin 2} {s : State} (h : s.members g ≠ []) :
    Written (s.riders g) (s.sharedPoint g)
      (s.putGroup g ((s.groups.recs.get g).settled (s.sharedPoint g) (s.rampDue g))) (s.settlePoint g) := by
  have hsettles : s.settlePoint g = (s.putGroup g ((s.groups.recs.get g).settled (s.sharedPoint g)
      (s.rampDue g))).writeSetpoints (s.riders g) (s.sharedPoint g) := by
    unfold State.settlePoint State.rampDue
    dsimp only
    rw [if_neg (mt List.isEmpty_iff.mp h)]
    cases (s.groups.recs.get g).rampTimer <;> rfl
  rw [hsettles]
  exact .writeSetpoints _ (s.riders_nodup g) fun l hl => State.ordered_of_rider (s := s) hl

end Sys2Proof.Machine
end

section
/-!
PROOFS. A GROUP_DEMAND from its delivery to the group that it leaves (O38; R34, R83 to R85).
-/

namespace Sys2Proof.Machine

/-! ## A demand accepted (R34, R36) -/

theorem State.takeDemand_of_commands {s : State} {k : MsgKind} {j : Job} {pass : State → State} {q : Received}
    (hcommands : s.commands j q.frame.id.source.toNat = true) (hmode : s.mgmt.mode = .coordinating) :
    s.takeDemand k j pass q = pass (s.hear j q.arrival) := by
  unfold State.commands at hcommands
  split at hcommands
  · next i hi =>
    obtain ⟨hright, hown⟩ := Bool.and_eq_true_iff.mp hcommands
    obtain ⟨row, hrow, hholds⟩ := (Option.any_eq_true _ _).mp hright
    simp only [State.takeDemand, hi, hrow, hholds, of_decide_eq_true hown, hmode, Bool.true_eq_false, ne_eq,
      not_true_eq_false, reduceCtorEq, if_false]
  · nomatch hcommands

/-- The step of an accepted demand: what its kind does, from the state that has heard its station. -/
theorem event_of_accepted {t : Nat} {p : Port} {s w : State} {q : Received} {k : MsgKind} {j : Job}
    (h : s.accepted t p k j = some (q, w)) (pass : Received → State → State) :
    handable k q.frame.data = true
      ∧ event t (State.onDelivery p k fun q => State.takeDemand k j (pass q) q) s = .next (pass q w).flush := by
  unfold State.accepted at h
  split at h
  · next k' q' s1 hdelivery =>
    obtain ⟨⟨rfl, hcommands, hmode⟩, hsome⟩ := Option.ite_none_right_eq_some.mp h
    cases hsome
    refine ⟨State.handable_of_delivery hdelivery, ?_⟩
    rw [event_onDelivery_of_delivery hdelivery, State.takeDemand_of_commands hcommands hmode]
  · nomatch h

/-! ## The target of a demand (R58, R83) -/

theorem demandDir_of_handable {d : List Byte} (h : handable .groupDemand d = true) :
    demandDir d = if u8 d 1 = 0 then .neutral else if u8 d 1 = 1 then .ahead else .astern := by
  obtain ⟨-, hcodes⟩ := Bool.and_eq_true_iff.mp h
  obtain ⟨dir, hdir⟩ := Option.isSome_iff_exists.mp (show (dirOfCode (u8 d 1)).isSome = true from hcodes)
  rw [demandDir, hdir]
  rw [dirOfCode_eq_some.mp hdir]
  cases dir <;> rfl

section
variable {g : Fin 2} {d : Dir} {v : Nat} {s : State} {q : Received}

/-- A GROUP_DEMAND for a loaded group with home members, its target normalised (R83). -/
theorem State.groupDemand_of_loaded {grow : GroupRow} (hg : u8 q.frame.data 0 = g.val) (hrow : s.groups.rows.get g = some grow)
    (hhome : s.homeMembers g ≠ []) (hok : handable .groupDemand q.frame.data = true)
    (hd : d = if u8 q.frame.data 1 = 0 ∨ u16 q.frame.data 2 = 0 then .neutral
      else if u8 q.frame.data 1 = 1 then .ahead else .astern)
    (hv : v = if d = .neutral then 0 else max (u16 q.frame.data 2) (s.groupIdle g)) :
    s.groupDemand q = if (s.groups.recs.get g).targetDir = d ∧ (s.groups.recs.get g).targetSpeed = v then
        if (s.groups.recs.get g).suspended then
          s.putGroup g { s.groups.recs.get g with ignored := bump (s.groups.recs.get g).ignored } else s
      else s.changeGroup g d v := by
  have hdemand : s.groupDemand q = s.groupTarget g (demandDir q.frame.data) (u16 q.frame.data 2) := by
    unfold State.groupDemand
    dsimp only
    rw [idx_eq_some_iff.mpr hg]
    exact if_neg (by simp [hrow, hhome])
  have htarget : (if demandDir q.frame.data = .neutral ∨ u16 q.frame.data 2 = 0 then (Dir.neutral, 0)
      else (demandDir q.frame.data, max (u16 q.frame.data 2) (s.groupIdle g))) = (d, v) := by
    rw [demandDir_of_handable hok, hv, hd]
    by_cases h0 : u8 q.frame.data 1 = 0
    · simp [h0]
    · by_cases hz : u16 q.frame.data 2 = 0
      · simp [hz]
      · by_cases h1 : u8 q.frame.data 1 = 1 <;> simp [h0, hz, h1]
  rw [hdemand]
  unfold State.groupTarget
  rw [htarget]

/-! ## The group formed (R84) -/

theorem State.eligible_iff {l : Fin 4} : s.eligible g d l = true ↔ ∃ row, s.lanes.rows.get l = some row
    ∧ row.home = some g ∧ (s.lane l).state.ordered = true
    ∧ (d = .neutral ∨ s.boatReleasing row.boat = false ∧ (row.boat = .main ∨ s.assistCoupled = true)) := by
  unfold State.eligible
  cases s.lanes.rows.get l <;> simp [and_assoc]

/-- With no release in progress under a lane's boat the lane is unhindered (R124). -/
theorem State.unhindered_of_boatReleasing {l : Fin 4} {row : LaneRow} (hrow : s.lanes.rows.get l = some row)
    (h : s.boatReleasing row.boat = false) : s.Unhindered l := fun row' hrow' c => by
  obtain rfl := Option.some.inj (hrow.symm.trans hrow')
  have hc := any_indices_eq_false.mp h c
  unfold State.releasingUnder
  cases hcoup : s.couplings.rows.get c with
  | none => rfl
  | some x =>
    rw [hcoup] at hc
    dsimp only at hc ⊢
    rw [Bool.and_assoc, hc, Bool.and_false]

/-- A group's record with a new target, its suspension ended (R83). -/
def GroupRec.retargeted (r : GroupRec) (d : Dir) (v : Nat) : GroupRec :=
  { r with targetDir := d, targetSpeed := v, suspended := false }

/-- The members that a new target dismisses. -/
def State.leavers (s : State) (g : Fin 2) (d : Dir) : List (Fin 4) := (s.members g).filter fun l => !s.eligible g d l

/-- The lanes that a new target gathers. -/
def State.joiners (s : State) (g : Fin 2) (d : Dir) : List (Fin 4) := (indices 4).filter (s.eligible g d)

/-- From `s` to `t` a group has a new target and the lanes it gathers, its point not settled yet. -/
structure Formed (g : Fin 2) (d : Dir) (v : Nat) (s t : State) : Prop extends Cuts 4 s t where
  group  : (t.groups.recs.get g).stopped = ((s.groups.recs.get g).retargeted d v).stopped
  other  : ∀ i, i ≠ g → t.groups.recs.get i = s.groups.recs.get i
  joined : ∀ l row, s.lanes.rows.get l = some row → s.eligible g d l = true →
    (t.lane l).Joined (row.share d v).1 (row.share d v).2
  out    : ∀ l row, s.lanes.rows.get l = some row → row.home = some g → s.eligible g d l = false →
    (t.lane l).inStep = false
  stays  : ∀ l, (∀ row, s.lanes.rows.get l = some row → row.home ≠ some g) → t.lane l = s.lane l

/-- The state of a group with its new target, its members and joiners walked. -/
def State.formed (g : Fin 2) (d : Dir) (v : Nat) (s : State) : State :=
  forEach (s.joiners g d) (State.joinGroup d v)
    (forEach (s.leavers g d) State.leaveGroup (s.putGroup g ((s.groups.recs.get g).retargeted d v)))

theorem State.changeGroup_eq : s.changeGroup g d v = (s.formed g d v).settlePoint g := rfl

theorem Formed.formed (hpending : ∀ l, (s.lane l).targetDir = .neutral → (s.lane l).pending = none) :
    Formed g d v s (s.formed g d v) := by
  have hput := Cuts.putGroup g ((s.groups.recs.get g).retargeted d v) s
  have hleft : Left g (s.leavers g d) (s.putGroup g ((s.groups.recs.get g).retargeted d v)) _ :=
    .forEach (((indices_nodup 4).filter _).filter _) fun l hl => (List.mem_filter.mp hl).1
  have hleaver : ∀ l, s.eligible g d l = true → l ∉ s.leavers g d := fun l he hl => by
    have := (List.mem_filter.mp hl).2
    rw [he] at this
    nomatch this
  have hjoiner : ∀ l, l ∈ s.joiners g d ↔ s.eligible g d l = true := fun l => by
    rw [State.joiners, List.mem_filter, and_iff_right (mem_indices l)]
  unfold State.formed
  generalize forEach (s.leavers g d) State.leaveGroup _ = left at hleft
  have hcuts := hput.trans hleft.toCuts
  have hrows : left.lanes.rows = s.lanes.rows := hcuts.laneRows
  have hkept : ∀ l, s.eligible g d l = true → left.lane l = s.lane l := fun l he =>
    (hleft.lane l).trans (if_neg (hleaver l he))
  have hjoins : Gathered (s.joiners g d) d v left _ := .forEach v ((indices_nodup 4).filter _) fun l hl => by
    have heligible := (hjoiner l).mp hl
    obtain ⟨row, hrow, -, hordered, hfree⟩ := State.eligible_iff.mp heligible
    refine ⟨⟨row, by rw [hrows, hrow]⟩, by rwa [hkept l heligible], ?_⟩
    rw [hkept l heligible]
    exact hfree.imp (fun hd => ⟨hd, hpending l⟩) fun ⟨hboat, _⟩ =>
      (State.unhindered_of_boatReleasing hrow hboat).congr hcuts.lessDrive
  have hlength : (s.joiners g d).length ≤ 4 := List.length_filter_le _ _
  generalize forEach (s.joiners g d) (State.joinGroup d v) left = formed at hjoins
  have houtside : ∀ l, s.eligible g d l = false → formed.lane l = left.lane l := fun l he =>
    hjoins.others l fun hl => ne_true_of_eq_false he ((hjoiner l).mp hl)
  exact {
    toCuts := (hcuts.trans hjoins.toCuts).mono (by omega)
    group := by rw [hjoins.groups, hleft.group, State.group_putGroup]
    other := fun i hi => by rw [hjoins.groups, hleft.other i hi]; exact Tab.get_set_ne _ _ hi
    joined := fun l row hrow he => hjoins.joined l ((hjoiner l).mpr he) row (by rw [hrows, hrow])
    out := fun l row hrow hhome he => by
      rw [houtside l he, hleft.lane]
      split
      · rfl
      · next hl =>
        refine Bool.not_eq_true _ ▸ fun hstep => hl (List.mem_filter.mpr ⟨?_, by rw [he]; rfl⟩)
        exact State.mem_members.mpr ⟨hstep, row, hrow, hhome⟩
    stays := fun l haway => by
      have hineligible : s.eligible g d l = false := Bool.not_eq_true _ ▸ fun he => by
        obtain ⟨row, hrow, hhome, -⟩ := State.eligible_iff.mp he
        exact haway row hrow hhome
      rw [houtside l hineligible, hleft.lane, if_neg fun hl => ?_]
      · rfl
      · obtain ⟨-, row, hrow, hhome⟩ := State.mem_members.mp (List.mem_filter.mp hl).1
        exact haway row hrow hhome }
end

/-! ## The point shared (R85) -/

theorem Written.inStep {ls : List (Fin 4)} {v : Nat} {s t : State} (h : Written ls v s t)
    (hrows : ∀ l ∈ ls, ∃ row, s.lanes.rows.get l = some row) (l : Fin 4) : (t.lane l).inStep = (s.lane l).inStep := by
  by_cases hl : l ∈ ls
  · obtain ⟨row, hrow⟩ := hrows l hl
    rw [h.listed l hl row hrow, LaneRec.written_inStep]
  · rw [h.others l hl]

/-- A lane that rides once the setpoints are written rode before. -/
theorem Written.riding {ls : List (Fin 4)} {v : Nat} {s t : State} (h : Written ls v s t)
    (hrows : ∀ l ∈ ls, ∃ row, s.lanes.rows.get l = some row) {l : Fin 4} (hl : (t.lane l).state.riding = true) :
    (s.lane l).state.riding = true := by
  by_cases hmem : l ∈ ls
  · obtain ⟨row, hrow⟩ := hrows l hmem
    rw [h.listed l hmem row hrow] at hl
    rcases LaneRec.written_state (s.lane l) row v s.now with hstate | ⟨hstate, -⟩
    · rw [hstate] at hl
      nomatch hl
    · rwa [hstate] at hl
  · rwa [h.others l hmem] at hl

theorem State.mem_members_congr {s t : State} (hrows : t.lanes.rows = s.lanes.rows)
    (hstep : ∀ l, (t.lane l).inStep = (s.lane l).inStep) (g : Fin 2) : t.members g = s.members g := by
  unfold State.members
  simp only [hrows, hstep]

/-- From `s` to `t` the point of a group is settled, over what its members are. -/
structure Settled (g : Fin 2) (s t : State) : Prop extends Cuts 4 s t where
  members : t.members g = s.members g
  lane    : ∀ l, t.lane l = s.lane l ∨ l ∈ s.riders g ∧ ∃ row v, t.lane l = (s.lane l).written row v s.now
  group   : ∃ point, (t.groups.recs.get g).stopped = ((s.groups.recs.get g).withPoint point).stopped
  other   : ∀ i, i ≠ g → t.groups.recs.get i = s.groups.recs.get i
  hold    : (t.groups.recs.get g).holdStart = none
  ramp    : (t.groups.recs.get g).rampTimer = none ↔ t.members g = []
  shared  : ∀ l ∈ t.riders g, (t.lane l).setpoint = (t.groups.recs.get g).point

theorem Settled.settlePoint (g : Fin 2) (s : State) : Settled g s (s.settlePoint g) := by
  by_cases hempty : s.members g = []
  · have hstop := Cuts.putGroup g (s.groups.recs.get g).stopped s
    have hrec := State.group_putGroup g (s.groups.recs.get g).stopped s
    rw [State.settlePoint_of_empty hempty]
    exact {
      toCuts := hstop.mono (Nat.zero_le 4)
      members := rfl
      lane := fun _ => .inl rfl
      group := ⟨(s.groups.recs.get g).point, by rw [hrec]; rfl⟩
      other := fun i hi => Tab.get_set_ne _ _ hi
      hold := by rw [hrec]; rfl
      ramp := iff_of_true (by rw [hrec]; rfl) hempty
      shared := fun l hl => by
        have hmember : l ∈ s.members g := (State.mem_riders.mp hl).1
        rw [hempty] at hmember
        nomatch hmember }
  · have hwritten := State.settlePoint_of_members hempty
    have hput := Cuts.putGroup g ((s.groups.recs.get g).settled (s.sharedPoint g) (s.rampDue g)) s
    have hrec := State.group_putGroup g ((s.groups.recs.get g).settled (s.sharedPoint g) (s.rampDue g)) s
    generalize hpoint : s.sharedPoint g = point at hwritten hput hrec
    have hrows : ∀ l ∈ s.riders g, ∃ row, s.lanes.rows.get l = some row := fun l hl =>
      (State.row_of_rider hl).imp fun _ h => h.1
    have hcuts := hput.trans hwritten.toCuts
    have hmembers : (s.settlePoint g).members g = s.members g :=
      State.mem_members_congr hcuts.laneRows (hwritten.inStep hrows) g
    rw [← hwritten.groups] at hrec
    exact {
      toCuts := hcuts.mono (by rw [Nat.zero_add]; exact s.riders_length g)
      members := hmembers
      lane := fun l => by
        by_cases hl : l ∈ s.riders g
        · obtain ⟨row, hrow⟩ := hrows l hl
          exact .inr ⟨hl, row, point, hwritten.listed l hl row hrow⟩
        · exact .inl (hwritten.others l hl)
      group := ⟨point, by rw [hrec]; rfl⟩
      other := fun i hi => by rw [hwritten.groups]; exact Tab.get_set_ne _ _ hi
      hold := by rw [hrec]; rfl
      ramp := iff_of_false (by rw [hrec]; nofun) (by rwa [hmembers])
      shared := fun l hl => by
        obtain ⟨hmember, hriding⟩ := State.mem_riders.mp hl
        have hrider : l ∈ s.riders g := State.mem_riders.mpr ⟨hmembers ▸ hmember, hwritten.riding hrows hriding⟩
        obtain ⟨row, hrow⟩ := hrows l hrider
        rw [hwritten.setpoint hrider hrow, hrec]
        rfl }

/-! ## As the event ends -/

theorem State.inStep_of_quiet {s t : State} (h : t.quiet = s.quiet) (l : Fin 4) : (t.lane l).inStep = (s.lane l).inStep :=
  congrArg (fun r => r.inStep) (State.lane_core_of_quiet h l)

theorem State.members_of_quiet {s t : State} (h : t.quiet = s.quiet) (g : Fin 2) : t.members g = s.members g :=
  State.mem_members_congr (congrArg (fun u => u.lanes.rows) h) (State.inStep_of_quiet h) g

theorem State.riders_of_quiet {s t : State} (h : t.quiet = s.quiet) (g : Fin 2) : t.riders g = s.riders g := by
  have hstate : ∀ l, (t.lane l).state = (s.lane l).state := fun l =>
    congrArg (fun r => r.state) (State.lane_core_of_quiet h l)
  unfold State.riders
  simp only [State.members_of_quiet h, hstate]

theorem LaneRec.Joined.of_core {d : Dir} {v : Nat} {r r' : LaneRec} (h : r.Joined d v) (hcore : r'.core = r.core) :
    r'.Joined d v where
  inStep := (congrArg (fun r => r.inStep) hcore).trans h.inStep
  crash := (congrArg (fun r => r.crash) hcore).trans h.crash
  kickTimer := (congrArg (fun r => r.kickTimer) hcore).trans h.kickTimer
  kickMark := (congrArg (fun r => r.kickMark) hcore).trans h.kickMark
  targetDir := (congrArg (fun r => r.targetDir) hcore).trans h.targetDir
  targetSpeed := (congrArg (fun r => r.targetSpeed) hcore).trans h.targetSpeed

theorem LaneRow.share_snd (row : LaneRow) (d : Dir) (v : Nat) : (row.share d v).2 =
    if d = .neutral then 0 else min (if d = .astern then row.maxAstern else row.maxAhead) (max row.idle v) := by
  cases d <;> rfl

end Sys2Proof.Machine

open Sys2Proof Sys2Proof.Machine

/-- Settles O38: a GROUP_DEMAND is a refresh or `State.changeGroup`, which forms the group (`Formed`) and settles its point
(`Settled`). -/
theorem groupDemandsGatherTheEligibleLanes : Obligations.GroupDemandsGatherTheEligibleLanes := by
  unfold Obligations.GroupDemandsGatherTheEligibleLanes
  intro t p s h q g grow haccepted hg hrow hhome hpending r d v
  obtain ⟨hok, hexec⟩ := event_of_accepted haccepted State.groupDemand
  have hexec : exec (.groupDemand t p) s = .next (h.groupDemand q).flush := hexec
  rw [State.groupDemand_of_loaded (d := d) (v := v) hg hrow hhome hok rfl rfl] at hexec
  refine ⟨fun hdir hspeed => ?refresh, fun hother => ?change⟩
  case refresh =>
    rw [if_pos ⟨hdir, hspeed⟩] at hexec
    refine becomes_of_silent_effect hexec ?_ rfl
    exact relation_cond (.of_eq rfl rfl rfl rfl) (.refl h)
  case change =>
    rw [if_neg hother, State.changeGroup_eq] at hexec
    have hformed : Formed g d v h (h.formed g d v) := .formed hpending
    have hsettled := Settled.settlePoint g (h.formed g d v)
    generalize h.formed g d v = formed at hexec hformed hsettled
    generalize formed.settlePoint g = settled at hexec hsettled
    have hcuts := hformed.toCuts.trans hsettled.toCuts
    have hflush := Notified.flush settled
    have hquiet := State.quiet_flush settled
    have hcore := State.lane_core_of_quiet hquiet
    have hgroups : settled.flush.groups = settled.groups := congrArg (fun u => u.groups) hquiet
    obtain ⟨point, hpoint⟩ := hsettled.group
    have hrec : (settled.groups.recs.get g).stopped = ((r.retargeted d v).withPoint point).stopped :=
      hpoint.trans (congrArg (GroupRec.withPoint point) hformed.group)
    have hapart : ∀ l, (formed.lane l).inStep = false → settled.lane l = formed.lane l := fun l hl =>
      (hsettled.lane l).resolve_right fun ⟨hrider, _⟩ =>
        ne_true_of_eq_false hl (State.mem_members.mp (State.mem_riders.mp hrider).1).1
    refine ⟨_, hexec, hflush.now.trans hcuts.now, (State.lessDrive_congr hquiet).trans hcuts.lessDrive,
      fun e he hes => (hflush.flags e he hes).trans (hcuts.flags e he hes),
      (congrArg (fun u => u.lanes.ceils) hquiet).trans hcuts.ceils, fun i hi => ?other, ?_⟩
    case other => rw [hgroups, hsettled.other i hi, hformed.other i hi]
    rw [hgroups, State.members_of_quiet hquiet, State.riders_of_quiet hquiet]
    refine ⟨congrArg (fun x => x.targetDir) hrec, congrArg (fun x => x.targetSpeed) hrec,
      congrArg (fun x => x.suspended) hrec, congrArg (fun x => x.ignored) hrec, hsettled.hold, hsettled.ramp,
      fun l row hl _ heligible => ?joined, fun l row hl hhome heligible => ?out, fun l haway => ?stays, fun l hl => ?shared⟩
    case joined =>
      have hjoined : (settled.lane l).Joined (row.share d v).1 (row.share d v).2 := by
        rcases hsettled.lane l with hsame | ⟨-, row', v', hwritten⟩
        · rw [hsame]
          exact hformed.joined l row hl heligible
        · rw [hwritten]
          exact (hformed.joined l row hl heligible).written
      obtain ⟨hstep, hcrash, htimer, hmark, hdir, hspeed⟩ := hjoined.of_core (hcore l)
      exact ⟨hstep, hcrash, htimer, hmark, hdir.trans (row.share_fst d v), hspeed.trans (row.share_snd d v)⟩
    case out =>
      have hout := hformed.out l row hl hhome heligible
      rw [State.inStep_of_quiet hquiet, hapart l hout]
      exact hout
    case stays =>
      have hsame := hformed.stays l haway
      rw [hcore, (hsettled.lane l).resolve_right fun ⟨hrider, _⟩ => ?_, hsame]
      obtain ⟨row, hl, hhome⟩ := State.row_of_rider hrider
      exact haway row (by rwa [hformed.laneRows] at hl) hhome
    case shared => exact (congrArg (fun x => x.setpoint) (hcore l)).trans (hsettled.shared l hl)
end

section
/-!
PROOFS. A written setpoint as a whole: the actuators evaluated where the lane leaves RAMPDOWN (R62, R100), and the one order
that it queues (R65, R68).
-/

namespace Sys2Proof.Machine

/-! ## The actuators of one lane evaluated (R100) -/

/-- One actuator's part of `evaluateLane`. -/
def State.evaluateFor (l : Fin 4) (a : Fin 8) (s : State) : State :=
  match s.steering.rows.get a with
  | some row => if row.lane = l then s.evaluate a else s
  | none => s

/-- What the evaluation of one lane's actuators gives an actuator: nothing where another lane is its reference. -/
def State.aimFor (l : Fin 4) (a : Fin 8) (s : State) : Option (Dir × Int) :=
  match s.steering.rows.get a with
  | some row => if row.lane = l then s.aim a else none
  | none => none

theorem Swept.evaluateFor (l : Fin 4) (a : Fin 8) (s : State) : Swept s (s.evaluateFor l a) := by
  unfold State.evaluateFor
  split
  · exact relation_cond (.evaluate a s) (.refl s)
  · exact .refl s

theorem Swept.aimFor {s t : State} (h : Swept s t) (l : Fin 4) (a : Fin 8) : t.aimFor l a = s.aimFor l a := by
  have hrows : t.steering.rows = s.steering.rows := congrArg (fun u => u.steering.rows) h.undriven
  unfold State.aimFor
  rw [hrows, h.aim a]

theorem State.act_evaluateFor (l : Fin 4) (a b : Fin 8) (s : State) :
    (s.evaluateFor l a).act b = if b = a then (s.act b).aimed (s.aimFor l b) else s.act b := by
  have hstay : s.act b = if b = a then (s.act b).aimed none else s.act b := (ite_self _).symm
  by_cases hb : b = a
  · subst hb
    rw [if_pos rfl]
    unfold State.evaluateFor State.aimFor
    cases hrow : s.steering.rows.get b with
    | none => rfl
    | some row =>
      dsimp only
      split
      · rw [State.evaluate_of_some hrow, State.act_putAct, if_pos rfl]
      · rfl
  · rw [if_neg hb]
    unfold State.evaluateFor
    cases hrow : s.steering.rows.get a with
    | none => rfl
    | some row =>
      dsimp only
      split
      · rw [State.evaluate_of_some hrow, State.act_putAct, if_neg hb]
      · rfl

theorem State.act_forEach_evaluateFor (l : Fin 4) {as : List (Fin 8)} (hnodup : as.Nodup) (b : Fin 8) (s : State) :
    (forEach as (State.evaluateFor l) s).act b = if b ∈ as then (s.act b).aimed (s.aimFor l b) else s.act b := by
  induction as generalizing s with
  | nil => exact (if_neg List.not_mem_nil).symm
  | cons a as ih =>
    obtain ⟨ha, hnodup⟩ := List.nodup_cons.mp hnodup
    have hwalk : forEach (a :: as) (State.evaluateFor l) s = forEach as (State.evaluateFor l) (s.evaluateFor l a) := rfl
    rw [hwalk, ih hnodup, (Swept.evaluateFor l a s).aimFor, State.act_evaluateFor]
    by_cases hb : b = a
    · subst hb
      rw [if_neg ha, if_pos rfl, if_pos List.mem_cons_self]
    · simp only [hb, if_false, List.mem_cons, false_or]

/-- R100. -/
theorem State.act_evaluateLane (l : Fin 4) (a : Fin 8) (s : State) :
    (s.evaluateLane l).act a = (s.act a).aimed (s.aimFor l a) :=
  (State.act_forEach_evaluateFor l (indices_nodup 8) a s).trans (if_pos (mem_indices a))

/-- An evaluation reads no more of a lane's record than its state. -/
theorem State.aimFor_setLane {r r' : LaneRec} (h : r.state = r'.state) (l i : Fin 4) (a : Fin 8) (s : State) :
    (s.setLane l r).aimFor i a = (s.setLane l r').aimFor i a := by
  have hstate : ∀ j, ((s.setLane l r).lanes.recs.get j).state = ((s.setLane l r').lanes.recs.get j).state := fun j => by
    have hread : ∀ x : LaneRec, (s.setLane l x).lanes.recs.get j = if j = l then x else s.lane j := fun x =>
      State.lane_setLane l j x s
    rw [hread, hread]
    split
    · exact h
    · rfl
  have hcolumn : ∀ j, (s.setLane l r).columnOf j = (s.setLane l r').columnOf j := fun j => by
    unfold State.columnOf
    rw [hstate]
    rfl
  unfold State.aimFor State.aim
  simp only [hcolumn]
  rfl

theorem State.undriven_setLane (l : Fin 4) (r : LaneRec) (s : State) : (s.setLane l r).undriven = s.undriven := rfl

theorem State.act_setLane (l : Fin 4) (r : LaneRec) (a : Fin 8) (s : State) : (s.setLane l r).act a = s.act a := rfl

theorem State.lane_evaluateLane (l i : Fin 4) (s : State) : (s.evaluateLane l).lane i = s.lane i :=
  congrArg (fun lanes => lanes.recs.get i) (State.lanes_evaluateLane l s)

/-- A lane record written after the evaluation that its state calls for is as good as one written before it. -/
theorem State.quiet_setLane_evaluateLane {r r' : LaneRec} (h : r.state = r'.state) (l : Fin 4) (s : State) :
    ((((s.setLane l r).dueLane l).evaluateLane l).setLane l r').quiet = ((s.setLane l r').evaluateLane l).quiet := by
  have hdue := Swept.dueLane l (s.setLane l r)
  have hbefore := hdue.trans (.evaluateLane l _)
  have hafter := Swept.evaluateLane l (s.setLane l r')
  refine State.quiet_eq_of_undriven ?undriven (fun i => congrArg LaneRec.core ?lane) fun a => ?act
  case undriven =>
    rw [State.undriven_setLane, hbefore.undriven, hafter.undriven, State.undriven_setLane, State.undriven_setLane]
  case lane =>
    have hother : ((s.setLane l r).dueLane l).lane i = if i = l then r else s.lane i := State.lane_setLane l i r s
    rw [State.lane_setLane, State.lane_evaluateLane, State.lane_evaluateLane, State.lane_setLane, hother]
    split <;> rfl
  case act =>
    have hact : ((s.setLane l r).dueLane l).act a = s.act a := rfl
    rw [State.act_setLane, State.act_evaluateLane, State.act_evaluateLane, hdue.aimFor, State.aimFor_setLane h, hact,
      State.act_setLane]

/-! ## The write and its order (R62, R65, R68) -/

section
variable {l : Fin 4} {row : LaneRow} {v : Nat} {s : State}

/-- The record of a setpoint that changes outside RAMPDOWN at idle speed (R65, R68). -/
theorem LaneRec.written_of_plain {r : LaneRec} {now : Nat} (hne : r.setpoint ≠ v)
    (h : ¬ (r.state = .rampdown ∧ v = row.idle)) : r.written row v now = (r.withSetpoint v).refreshed row now := (if_neg hne).trans (if_neg h)

theorem LaneRec.written_of_release {r : LaneRec} {now : Nat} (hne : r.setpoint ≠ v)
    (h : r.state = .rampdown ∧ v = row.idle) : r.written row v now = r.declutched row now := (if_neg hne).trans (if_pos h)

theorem LaneRec.released_withSetpoint (r : LaneRec) (now : Nat) :
    (r.withSetpoint v).released row now = r.released row now := rfl

theorem LaneRec.declutched_withSetpoint (r : LaneRec) (now : Nat) :
    (r.withSetpoint v).declutched row now = r.declutched row now := rfl

theorem Silent.setLane (l : Fin 4) (r : LaneRec) (s : State) : Silent s (s.setLane l r) := .of_eq rfl rfl rfl rfl

/-- A setpoint changed is a lane record replaced, as `laneBecomes` says, and one order. -/
theorem State.writeSetpoint_orders (hne : (s.lane l).setpoint ≠ v) (hordered : (s.lane l).state.ordered = true) :
    ∃ x, s.writeSetpoint l row v = x.governorOrder l row ((s.lane l).written row v s.now).gear v ∧ Silent s x
      ∧ x.quiet = (s.laneBecomes l ((s.lane l).written row v s.now)).quiet := by
  generalize hat : s.setLane l ((s.lane l).withSetpoint v) = held
  have hlane : held.lane l = (s.lane l).withSetpoint v := by
    rw [← hat, State.lane_setLane, if_pos rfl]
  have hnow : held.now = s.now := hat ▸ rfl
  have hreplace : ∀ r, held.setLane l r = s.setLane l r := fun r => by rw [← hat, State.setLane_setLane]
  rw [State.writeSetpoint_of_ne hne, hat]
  by_cases hrelease : (s.lane l).state = .rampdown ∧ v = row.idle
  · obtain ⟨hramp, hidle⟩ := hrelease
    have hstate : (held.lane l).state = .rampdown := by rw [hlane]; exact hramp
    have hdeclutch := State.declutch_eq row (s := held) (l := l) (by rw [hstate]; rfl) (by rw [hstate]; nofun)
    rw [hlane, LaneRec.declutched_withSetpoint, State.declutching, hreplace, hnow, hlane,
      LaneRec.released_withSetpoint] at hdeclutch
    have hswept := (Swept.dueLane l (s.setLane l ((s.lane l).released row s.now))).trans (.evaluateLane l _)
    have hquiet := State.quiet_setLane_evaluateLane (r := (s.lane l).released row s.now)
      (r' := (s.lane l).declutched row s.now) rfl l s
    generalize ((s.setLane l ((s.lane l).released row s.now)).dueLane l).evaluateLane l = begun at hdeclutch hswept hquiet
    have hbecomes : s.laneBecomes l ((s.lane l).declutched row s.now)
        = (s.setLane l ((s.lane l).declutched row s.now)).evaluateLane l := if_neg (by rw [hramp]; nofun)
    rw [if_pos ⟨hramp, hidle⟩, LaneRec.written_of_release hne ⟨hramp, hidle⟩, hdeclutch, hidle, hbecomes]
    exact ⟨begun.setLane l ((s.lane l).declutched row s.now), rfl,
      ((Silent.setLane l _ s).trans hswept.silent).trans (.setLane l _ begun), hquiet⟩
  · have horder := State.orderLane_of_ordered (s := held) (l := l) row (by rw [hlane]; exact hordered)
    rw [hreplace, hnow, hlane] at horder
    have hbecomes : s.laneBecomes l (((s.lane l).withSetpoint v).refreshed row s.now)
        = s.setLane l (((s.lane l).withSetpoint v).refreshed row s.now) := if_pos rfl
    rw [if_neg hrelease, LaneRec.written_of_plain hne hrelease, horder, hbecomes]
    exact ⟨_, rfl, .setLane l _ s, rfl⟩
end

end Sys2Proof.Machine
end

section
/-!
PROOFS. The orders that written setpoints queue on the ports other than B (R68), and a request answered behind orders of the
part.
-/

namespace Sys2Proof.Machine

/-! ## The ports after an order (R68, R7) -/

theorem State.governorFrame_congr {s t : State} (h : t.node = s.node) (l : Fin 4) (row : LaneRow) (gear : Dir) (v : Nat) :
    t.governorFrame l row gear v = s.governorFrame l row gear v := by
  unfold State.governorFrame State.frameOf
  rw [h]

theorem Cuts.mode {n : Nat} {s t : State} (h : Cuts n s t) : t.mgmt.mode = s.mgmt.mode :=
  congrArg (fun u => u.mgmt.mode) h.lessDrive

theorem Cuts.node {n : Nat} {s t : State} (h : Cuts n s t) : t.node = s.node := congrArg (fun u => u.node) h.lessDrive

theorem Cuts.laneBecomes (l : Fin 4) (r : LaneRec) (s : State) : Cuts 0 s (s.laneBecomes l r) :=
  .cond (.setLane l r s) ((Cuts.setLane l r s).trans (.of_swept (.evaluateLane l _)))

section
variable {l : Fin 4} {row : LaneRow} {v : Nat} {p : Port} {s : State}

theorem State.out_governorOrder (hmode : s.mgmt.mode = .coordinating) (hp : p ≠ .B) (gear : Dir) :
    ((s.governorOrder l row gear v).port p).out
      = if p = row.port then ((s.port p).offered .originated (s.governorFrame l row gear v)).out else (s.port p).out := by
  have hallowed : orderAllowed s.mgmt.mode .governorOrder = true := by rw [hmode]; rfl
  have hoffer : s.governorOrder l row gear v = s.offer row.port .originated (s.governorFrame l row gear v) := if_pos hallowed
  rw [hoffer, State.offer_port (.inl hp)]
  split
  · next h => rw [h]
  · rfl

variable (hmode : s.mgmt.mode = .coordinating) (hordered : (s.lane l).state.ordered = true) (hp : p ≠ .B)
include hmode hordered hp

/-- A setpoint changed queues the lane's order on its port, and nothing on another but B. -/
theorem State.out_writeSetpoint (hne : (s.lane l).setpoint ≠ v) :
    ((s.writeSetpoint l row v).port p).out = if p = row.port then
        ((s.port p).offered .originated (s.governorFrame l row ((s.lane l).written row v s.now).gear v)).out
      else (s.port p).out := by
  obtain ⟨x, hwrites, hsilent, hquiet⟩ := State.writeSetpoint_orders hne hordered (row := row)
  have hxmode : x.mgmt.mode = .coordinating :=
    ((congrArg (fun u => u.mgmt.mode) hquiet).trans (Cuts.laneBecomes l _ s).mode).trans hmode
  rw [hwrites, State.out_governorOrder hxmode hp, State.governorFrame_congr hsilent.node, PortState.out_offered,
    PortState.out_offered, hsilent.out]

/-- A setpoint written appends to a port other than B the lane's order, or nothing. -/
theorem State.egress_writeSetpoint (hroom : (s.port p).egress.length < 48) :
    ((s.writeSetpoint l row v).port p).egress = (s.port p).egress ++
      if (s.lane l).setpoint ≠ v ∧ p = row.port
      then [s.governorFrame l row ((s.lane l).written row v s.now).gear v] else [] := by
  by_cases hv : (s.lane l).setpoint = v
  · rw [State.writeSetpoint_of_eq hv, if_neg fun h => h.1 hv, List.append_nil]
  · have hegress := congrArg (fun ps : PortState => ps.egress) (State.out_writeSetpoint (row := row) hmode hordered hp hv)
    by_cases hport : p = row.port
    · rw [if_pos hport] at hegress
      rw [if_pos ⟨hv, hport⟩]
      exact hegress.trans (PortState.offered_room hroom)
    · rw [if_neg hport] at hegress
      rw [if_neg fun h => hport h.2, List.append_nil]
      exact hegress
end

/-! ## The ports after several orders -/

/-- From `s` to `t` the port keeps what it queued, and it queues the orders of the listed lanes whose setpoint changes to `v`. -/
structure Ordered (p : Port) (ls : List (Fin 4)) (v : Nat) (s t : State) : Prop where
  kept : ∀ f ∈ (s.port p).egress, f ∈ (t.port p).egress
  ordered : ∀ i ∈ ls, ∀ row, s.lanes.rows.get i = some row → (s.lane i).setpoint ≠ v → row.port = p →
    s.governorFrame i row ((s.lane i).written row v s.now).gear v ∈ (t.port p).egress

theorem Ordered.nil (p : Port) (v : Nat) (s : State) : Ordered p [] v s s := ⟨fun _ h => h, nofun⟩

/-- One lane's order, and then the others'. -/
theorem Ordered.cons {p : Port} {l : Fin 4} {ls : List (Fin 4)} {v : Nat} {s t u : State} (hl : l ∉ ls)
    (honly : LaneOnly l 1 s t) (hfirst : Ordered p [l] v s t) (hrest : Ordered p ls v t u) : Ordered p (l :: ls) v s u where
  kept f hf := hrest.kept f (hfirst.kept f hf)
  ordered i hi row hrow hne hport := by
    rcases List.mem_cons.mp hi with rfl | hi
    · exact hrest.kept _ (hfirst.ordered i (List.mem_singleton_self i) row hrow hne hport)
    · have hlane : t.lane i = s.lane i := honly.others i fun he => hl (he ▸ hi)
      have hframe := hrest.ordered i hi row (by rw [honly.laneRows, hrow]) (by rw [hlane]; exact hne) hport
      rwa [hlane, honly.now, State.governorFrame_congr honly.node] at hframe

theorem Ordered.writeSetpoints {p : Port} (hp : p ≠ .B) {ls : List (Fin 4)} (v : Nat) {s : State} (hnodup : ls.Nodup)
    (hmode : s.mgmt.mode = .coordinating) (hordered : ∀ l ∈ ls, (s.lane l).state.ordered = true)
    (hroom : (s.port p).egress.length + ls.length ≤ 48) : Ordered p ls v s (s.writeSetpoints ls v) := by
  induction ls generalizing s with
  | nil => exact .nil p v s
  | cons l ls ih =>
    obtain ⟨hl, hnodup⟩ := List.nodup_cons.mp hnodup
    obtain ⟨hfirst, hrest⟩ := List.forall_mem_cons.mp hordered
    rw [List.length_cons] at hroom
    have step : ∀ t, LaneOnly l 1 s t → (t.port p).egress.length ≤ (s.port p).egress.length + 1 → Ordered p [l] v s t →
        Ordered p (l :: ls) v s (t.writeSetpoints ls v) := fun t honly hgrows hsends =>
      .cons hl honly hsends (ih hnodup (honly.mode.trans hmode)
        (fun i hi => by
          rw [honly.others i fun he => hl (he ▸ hi)]
          exact hrest i hi)
        (by omega))
    have hwalk : s.writeSetpoints (l :: ls) v = State.writeSetpoints ls v
        (match s.lanes.rows.get l with
          | some row => s.writeSetpoint l row v
          | none => s) := rfl
    rw [hwalk]
    split
    · next row hrow =>
      have hegress := State.egress_writeSetpoint (row := row) (v := v) hmode hfirst hp (by omega)
      refine step _ (.writeSetpoint row v s) ?grows ⟨fun f hf => ?kept, fun i hi row' hrow' hne hport => ?sent⟩
      case grows =>
        rw [hegress, List.length_append]
        split <;> simp
      case kept =>
        rw [hegress]
        exact List.mem_append_left _ hf
      case sent =>
        obtain rfl := List.mem_singleton.mp hi
        obtain rfl := Option.some.inj (hrow.symm.trans hrow')
        rw [hegress, if_pos ⟨hne, hport.symm⟩]
        exact List.mem_append_right _ (List.mem_singleton_self _)
    · next hnone =>
      refine step s (.stay 1 s) (Nat.le_succ _) ⟨fun _ hf => hf, fun i hi row hrow => ?_⟩
      obtain rfl := List.mem_singleton.mp hi
      exact nomatch hnone.symm.trans hrow

/-! ## A request whose owner queues orders -/

theorem served_of_steers {t source n : Nat} {r : Req} {m : List Byte} {s s2 s3 u : State} {c : Instr} {P : State → Prop}
    (h : Completes t r source m s s2) (hc : r.command t = some c) (hr : r ≠ .resetArm) (ha : r.owner source m s2 = u.done)
    (hsteers : Steers [] n s2 u) (hn : n ≤ 28) (hquiet : u.quiet = s3.quiet)
    (hports : ∀ v, (∀ p, p ≠ .B → v.port p = u.port p) → P v) : Served c source m s s2 s3 [] [] P := by
  obtain ⟨v, hexec, hnow, hends, hflags, hsame, hreplies⟩ := answers_of_done h hc hr ha
  have hnode : u.node = s2.node := congrArg (fun x => x.node) hsteers.lessDrive
  refine ⟨v, hexec, ⟨hnow.trans hsteers.now, ?_, fun e he hes => (hflags e he hes).trans (hsteers.flags e he hes)⟩,
    hreplies n hn hsteers.appends hnode, hports v hsame⟩
  rw [hends, State.quiet_setArming, hquiet, State.quiet_setArming]

end Sys2Proof.Machine
end

section
/-!
PROOFS. A ceiling applied to its lane (R66, R89), and with it SET_CAP (O22; R76, R77).
-/

namespace Sys2Proof.Machine

/-! ## A group point cut (R89) -/

theorem State.putGroup_self (g : Fin 2) (s : State) : s.putGroup g (s.groups.recs.get g) = s := by
  have hrecs : s.groups.recs.set g (s.groups.recs.get g) = s.groups.recs := Tab.ext_get fun i => by
    rw [Tab.get_set]
    split
    · next h => rw [h]
    · rfl
  unfold State.putGroup
  rw [hrecs]

section
variable {l : Fin 4} {g : Fin 2} {row : LaneRow} {v least : Nat} {s : State}

theorem Written.movePoint_self (h : v ≠ (s.groups.recs.get g).point) :
    Written (s.riders g) v (s.putGroup g ((s.groups.recs.get g).withPoint v)) (s.movePoint g v) := by
  have hmoves := Written.movePoint (s := s) (g := g) h
  rwa [State.putGroup_self] at hmoves

theorem State.movePoint_of_ne (h : v ≠ (s.groups.recs.get g).point) :
    s.movePoint g v = (s.putGroup g ((s.groups.recs.get g).withPoint v)).writeSetpoints (s.riders g) v := if_neg h

theorem State.least_le_effCeiling (hrider : l ∈ s.riders g) (hrow : s.lanes.rows.get l = some row)
    (hleast : s.leastCeiling g = some least) : least ≤ s.effCeiling l row :=
  (leastOf_spec hleast).2 _ (List.mem_filterMap.mpr ⟨l, hrider, by rw [hrow]; rfl⟩)

theorem State.effCeiling_congr {t : State} (hceils : t.lanes.ceils = s.lanes.ceils) (hgear : (t.lane l).gear = (s.lane l).gear) :
    t.effCeiling l row = s.effCeiling l row := by
  unfold State.effCeiling LaneRec.ceilingDir
  rw [hceils, hgear]

/-- A rider that takes the least effective ceiling is not above its own, or rides no longer. -/
theorem State.uncut_movePoint (hrider : l ∈ s.riders g) (hrow : s.lanes.rows.get l = some row)
    (hleast : s.leastCeiling g = some least) (hne : least ≠ (s.groups.recs.get g).point) :
    ¬ (((s.movePoint g least).lane l).state.riding = true
      ∧ (s.movePoint g least).effCeiling l row < ((s.movePoint g least).lane l).setpoint) := by
  have hwritten := Written.movePoint_self hne
  have hlane : (s.movePoint g least).lane l = (s.lane l).written row least s.now := hwritten.listed l hrider row hrow
  have hceils : (s.movePoint g least).lanes.ceils = s.lanes.ceils := hwritten.ceils
  rintro ⟨hriding, habove⟩
  rw [hlane, LaneRec.written_setpoint] at habove
  rcases LaneRec.written_state (s.lane l) row least s.now with hgone | ⟨-, hgear⟩
  · rw [hlane, hgone] at hriding
    exact nomatch hriding
  · rw [State.effCeiling_congr hceils (by rw [hlane, hgear])] at habove
    exact absurd (State.least_le_effCeiling hrider hrow hleast) (Nat.not_le.mpr habove)

theorem State.cutPoint_of_above (hleast : s.leastCeiling g = some least) (h : least < (s.groups.recs.get g).point) :
    s.cutPoint g = s.movePoint g least := by
  unfold State.cutPoint
  rw [hleast]
  exact if_pos h

theorem State.cutPoint_of_below (hleast : s.leastCeiling g = some least) (h : (s.groups.recs.get g).point ≤ least) :
    s.cutPoint g = s := by
  unfold State.cutPoint
  rw [hleast]
  exact if_neg (Nat.not_lt.mpr h)

/-! ## A ceiling applied (R66, R89) -/

variable (hrow : s.lanes.rows.get l = some row)
include hrow

theorem State.applyCeiling_of_idle (h : (s.lane l).state.riding = false) : s.applyCeiling l = s := by
  unfold State.applyCeiling
  rw [hrow]
  exact if_neg (ne_true_of_eq_false h)

variable (hriding : (s.lane l).state.riding = true)
include hriding

theorem State.applyCeiling_of_out (hout : (s.lane l).inStep = false) : s.applyCeiling l =
    if s.effCeiling l row < (s.lane l).setpoint then s.writeSetpoint l row (s.effCeiling l row) else s := by
  unfold State.applyCeiling
  rw [hrow]
  simp only [hriding, hout, if_true, Bool.false_eq_true, if_false, true_and]

variable (hin : (s.lane l).inStep = true) (hhome : row.home = some g)
include hin hhome

theorem State.mem_riders_of_row : l ∈ s.riders g :=
  State.mem_riders.mpr ⟨State.mem_members.mpr ⟨hin, row, hrow, hhome⟩, hriding⟩

/-- A lane in step that the cut of its group's point leaves at or below its ceiling is not written again. -/
theorem State.applyCeiling_of_in {t : State} (hcut : s.cutPoint g = t)
    (huncut : ¬ ((t.lane l).state.riding = true ∧ t.effCeiling l row < (t.lane l).setpoint)) : s.applyCeiling l = t := by
  unfold State.applyCeiling
  rw [hrow]
  simp only [hriding, hin, hhome, hcut, if_true]
  exact if_neg huncut

theorem State.applyCeiling_of_low (hleast : s.leastCeiling g = some least) (hpoint : (s.groups.recs.get g).point ≤ least)
    (hsetpoint : (s.lane l).setpoint ≤ s.effCeiling l row) : s.applyCeiling l = s :=
  State.applyCeiling_of_in hrow hriding hin hhome (State.cutPoint_of_below hleast hpoint)
    fun h => absurd hsetpoint (Nat.not_le.mpr h.2)

theorem State.applyCeiling_of_high (hleast : s.leastCeiling g = some least) (hpoint : least < (s.groups.recs.get g).point) :
    s.applyCeiling l = s.movePoint g least :=
  State.applyCeiling_of_in hrow hriding hin hhome (State.cutPoint_of_above hleast hpoint)
    (State.uncut_movePoint (State.mem_riders_of_row hrow hriding hin hhome) hrow hleast (Nat.ne_of_lt hpoint))
end

/-! ## SET_CAP (R77) -/

/-- The state with a lane's ceiling record replaced, before it is applied. -/
def State.posted (l : Fin 4) (c : Ceilings) (s : State) : State :=
  { s with lanes := { s.lanes with ceils := s.lanes.ceils.set l c } }

theorem Silent.posted (l : Fin 4) (c : Ceilings) (s : State) : Silent s (s.posted l c) := .of_eq rfl rfl rfl rfl

theorem State.effCeiling_posted (l : Fin 4) (row : LaneRow) (c : Ceilings) (s : State) :
    (s.posted l c).effCeiling l row = ceilingFor row c (s.lane l).ceilingDir := by
  have hget : (s.posted l c).lanes.ceils.get l = c := Tab.get_set_self _ _ _
  unfold State.effCeiling
  rw [hget]
  rfl

section
variable {l : Fin 4} {row : LaneRow} {m : List Byte} {s : State}

theorem State.setCap_of_some {cap : Option Nat} (hl : u8 m 1 = l.val) (hrow : s.lanes.rows.get l = some row)
    (hcap : (cap = none ∧ u16 m 2 = 0)
      ∨ (cap = some (u16 m 2) ∧ u16 m 2 ≠ 0 ∧ row.idle ≤ u16 m 2 ∧ u16 m 2 ≤ 30000)) :
    s.setCap m = ((s.posted l { s.lanes.ceils.get l with mgmtCap := cap }).applyCeiling l).done := by
  unfold State.setCap
  rw [idx_eq_some_iff.mpr hl]
  dsimp only
  rw [hrow]
  rcases hcap with ⟨rfl, hzero⟩ | ⟨rfl, hne, hlo, hhi⟩
  · have habsent : absentAs 0 (u16 m 2) = none := if_pos hzero
    dsimp only
    rw [habsent]
    rfl
  · have hpresent : absentAs 0 (u16 m 2) = some (u16 m 2) := if_neg hne
    dsimp only
    rw [hpresent]
    exact if_pos (within_iff.mpr ⟨hlo, hhi⟩)

/-- R77: the requests that are refused. -/
theorem State.setCap_of_range (h : 4 ≤ u8 m 1 ∨ (∃ l : Fin 4, u8 m 1 = l.val ∧ s.lanes.rows.get l = none)
      ∨ ∃ (l : Fin 4) (row : LaneRow), u8 m 1 = l.val ∧ s.lanes.rows.get l = some row ∧ u16 m 2 ≠ 0
          ∧ (u16 m 2 < row.idle ∨ 30000 < u16 m 2)) : s.setCap m = s.refuses .range := by
  unfold State.setCap
  rcases h with hl | ⟨l, hl, hnone⟩ | ⟨l, row, hl, hrow, hne, hout⟩
  · rw [idx_eq_none_iff.mpr hl]
  · rw [idx_eq_some_iff.mpr hl]
    dsimp only
    rw [hnone]
  · have hpresent : absentAs 0 (u16 m 2) = some (u16 m 2) := if_neg hne
    rw [idx_eq_some_iff.mpr hl]
    dsimp only
    rw [hrow]
    dsimp only
    rw [hpresent]
    refine if_neg fun hwithin => ?_
    obtain ⟨hlo, hhi⟩ := within_iff.mp hwithin
    omega
end

section
variable {t source : Nat} {m : List Byte} {s s2 w : State} {l : Fin 4} {row : LaneRow} {top : Nat}

/-- R66: a lane out of step cut to its ceiling. -/
theorem served_of_cut (h : Completes t .setCap source m s s2) (howner : s2.setCap m = (w.applyCeiling l).done)
    (hsilent : Silent s2 w) (hposts : Steers [] 0 s2 w) (hrow : w.lanes.rows.get l = some row)
    (hriding : (w.lane l).state.riding = true) (hout : (w.lane l).inStep = false) (htop : w.effCeiling l row = top)
    (habove : top < (w.lane l).setpoint) (hmode : w.mgmt.mode = .coordinating) :
    Served (.setCap t) source m s s2 (w.laneBecomes l ((w.lane l).written row top w.now)) [] []
      fun u => Queues s2 u row.port (s2.governorFrame l row ((w.lane l).written row top w.now).gear top) := by
  have hordered := LaneState.ordered_of_riding hriding
  have hne := Nat.ne_of_gt habove
  have hcut : w.applyCeiling l = w.writeSetpoint l row top := by
    rw [State.applyCeiling_of_out hrow hriding hout, htop, if_pos habove]
  obtain ⟨x, hwrites, -, hquiet⟩ := State.writeSetpoint_orders hne hordered (row := row)
  have hends : (w.writeSetpoint l row top).quiet = (w.laneBecomes l ((w.lane l).written row top w.now)).quiet := by
    have horder : (x.governorOrder l row ((w.lane l).written row top w.now).gear top).quiet = x.quiet :=
      State.quiet_order _ _ _ _ x
    rw [hwrites, horder, hquiet]
  have hwrite := hposts.trans (Cuts.writeSetpoint l row top w).toSteers
  have hport : ∀ p, p ≠ .B → ((w.writeSetpoint l row top).port p).out = if p = row.port then
      ((s2.port p).offered .originated (s2.governorFrame l row ((w.lane l).written row top w.now).gear top)).out
      else (s2.port p).out := fun p hp => by
    rw [State.out_writeSetpoint hmode hordered hp hne, PortState.out_offered, PortState.out_offered, hsilent.out,
      State.governorFrame_congr hsilent.node]
  rw [hcut] at howner
  refine served_of_steers h rfl nofun howner hwrite (by decide) hends fun v hv hp => ⟨?_, fun p' hp' hne' => ?_⟩
  · rw [hv _ hp, hport _ hp, if_pos rfl]
  · rw [hv _ hp', hport _ hp', if_neg hne']

/-- R89: the point of a group cut, and with it the setpoint of every rider. -/
theorem answers_of_pointCut {g : Fin 2} {least : Nat} (h : Completes t .setCap source m s s2)
    (howner : s2.setCap m = (w.movePoint g least).done) (hposts : Steers [] 0 s2 w)
    (hne : least ≠ (w.groups.recs.get g).point) :
    Answers (exec (.setCap t) s) fun u =>
      u.now = s2.now ∧ FlagsKept s2 u [] ∧ Replies s2 u source [m.getD 0 0, 0#8]
      ∧ u.lessDrive = (s2.setArming none).lessDrive ∧ u.lanes.ceils = w.lanes.ceils
      ∧ u.groups = { w.groups with recs := w.groups.recs.set g ((w.groups.recs.get g).withPoint least) }
      ∧ (∀ i, i ∉ w.riders g → (u.lane i).core = (w.lane i).core)
      ∧ (∀ i row', i ∈ w.riders g → w.lanes.rows.get i = some row' →
          (u.lane i).core = ((w.lane i).written row' least w.now).core
          ∧ ((w.lane i).setpoint ≠ least → w.mgmt.mode = .coordinating → row'.port ≠ .B →
              (w.port row'.port).egress.length ≤ 16 →
              w.governorFrame i row' ((w.lane i).written row' least w.now).gear least ∈ (u.port row'.port).egress)) := by
  obtain ⟨u, hexec, hnow, hends, hflags, hports, hreplies⟩ := answers_of_done h rfl nofun howner
  have hmoved := hposts.trans (Cuts.movePoint g least w).toSteers
  have hnode : (w.movePoint g least).node = s2.node := congrArg (fun x => x.node) hmoved.lessDrive
  have hwritten := Written.movePoint_self hne
  have hcore : ∀ i, (u.lane i).core = ((w.movePoint g least).lane i).core :=
    State.lane_core_of_quiet (s := (w.movePoint g least).setArming none) hends
  refine ⟨u, hexec, hnow.trans hmoved.now, fun e he hes => (hflags e he hes).trans (hmoved.flags e he hes),
    hreplies _ (by decide) hmoved.appends hnode, (State.lessDrive_congr hends).trans ?drive,
    (congrArg (fun x => x.lanes.ceils) hends).trans hwritten.ceils,
    (congrArg (fun x => x.groups) hends).trans hwritten.groups, fun i hi => ?other, fun i row' hi hrow' => ⟨?rider, ?order⟩⟩
  case drive => exact congrArg (State.setArming none) hmoved.lessDrive
  case other =>
    rw [hcore, hwritten.others i hi]
    rfl
  case rider =>
    rw [hcore, hwritten.listed i hi row' hrow']
    rfl
  case order =>
    intro hsetpoint hmode hp hroom
    have hlength := w.riders_length g
    have horders := Ordered.writeSetpoints (s := w.putGroup g ((w.groups.recs.get g).withPoint least)) hp least
      (w.riders_nodup g) hmode (fun i hi => State.ordered_of_rider (s := w) hi)
      (Nat.le_trans (Nat.add_le_add hroom hlength) (by decide))
    rw [hports _ hp, State.movePoint_of_ne hne]
    exact horders.ordered i hi row' hrow' hsetpoint rfl
end

end Sys2Proof.Machine

open Sys2Proof Sys2Proof.Machine

/-- Settles O22, by the cases of `State.applyCeiling`: the lane idle, out of step, or in step with the group point below or
above the least effective ceiling. -/
theorem theCapCutsTheSetpointAtOnce : Obligations.TheCapCutsTheSetpointAtOnce := by
  unfold Obligations.TheCapCutsTheSetpointAtOnce
  refine ⟨fun t source m s s2 l row cap h hl hrow hcap => ?posts, fun t source m s s2 h hrange =>
    refused_of_refuses h rfl nofun (State.setCap_of_range hrange)⟩
  intro c w r top rides released
  have howner : s2.setCap m = (w.applyCeiling l).done := State.setCap_of_some hl hrow hcap
  have hsilent : Silent s2 w := .posted l c s2
  have hposts : Steers [] 0 s2 w := ⟨rfl, rfl, fun _ _ _ => rfl, .of_silent hsilent⟩
  have htop : w.effCeiling l row = top := State.effCeiling_posted l row c s2
  have stays : w.applyCeiling l = w → Served (.setCap t) source m s s2 w [] [] (QueuesNothing s2) := fun hstay =>
    served_of_done h rfl nofun (howner.trans (congrArg State.done hstay)) hsilent rfl
  have hrides : rides → (w.lane l).state.riding = true := LaneState.riding_iff.mpr
  have cuts := fun hride hout habove hmode => served_of_cut h howner hsilent hposts hrow (hrides hride) hout htop habove hmode
  refine ⟨fun hidle => stays ?idle, fun hride hout hbelow => stays ?uncut, fun hride hout habove hplain hmode => ?plain,
    fun hramp hout hidle habove hmode => ?release, fun g least hride hin hhome hleast hpoint hbelow => stays ?low,
    fun g least hride hin hhome hleast hpoint => ?high⟩
  case idle => exact State.applyCeiling_of_idle (s := w) hrow (Bool.eq_false_iff.mpr (mt LaneState.riding_iff.mp hidle))
  case uncut =>
    rw [State.applyCeiling_of_out (s := w) hrow (hrides hride) hout, htop]
    exact if_neg (Nat.not_lt.mpr hbelow)
  case plain =>
    have hcut := cuts hride hout habove hmode
    have hwritten : (w.lane l).written row top w.now = (r.withSetpoint top).refreshed row s2.now :=
      LaneRec.written_of_plain (Nat.ne_of_gt habove) hplain
    have hbecomes : w.laneBecomes l ((r.withSetpoint top).refreshed row s2.now)
        = w.setLane l ((r.withSetpoint top).refreshed row s2.now) := if_pos rfl
    rw [hwritten, hbecomes] at hcut
    exact hcut
  case release =>
    have hcut := cuts (.inr (.inr hramp)) hout habove hmode
    have hwritten : (w.lane l).written row top w.now = r.declutched row s2.now :=
      LaneRec.written_of_release (Nat.ne_of_gt habove) ⟨hramp, hidle⟩
    rw [hwritten, hidle] at hcut
    exact hcut
  case low => exact State.applyCeiling_of_low (s := w) hrow (hrides hride) hin hhome hleast hpoint (htop ▸ hbelow)
  case high =>
    have hcut := State.applyCeiling_of_high (s := w) hrow (hrides hride) hin hhome hleast hpoint
    obtain ⟨u, hexec, hnow, hflags, hreplies, hdrive, hceils, hgroups, hothers, hriders⟩ :=
      answers_of_pointCut h (howner.trans (congrArg State.done hcut)) hposts (Nat.ne_of_lt hpoint)
    exact ⟨u, hexec, hnow, hflags, hreplies, hdrive, hceils, hgroups, hothers, hriders⟩
end
